-- ==== Sys2Proof/Word.lean ====
section
/-! DEFINITION. The words the vehicle link carries. Everything the block computes with is a plain number or a named
value; only what travels as bits on the serial line (bytes, the layouts of section 10.9) is a bit vector. -/

namespace Sys2Proof

/-- One character's 8 data bits on the vehicle link (10.1). -/
abbrev Byte := BitVec 8

/-- A two-byte field of a frame, most significant byte first on the line (10.9). -/
abbrev Half := BitVec 16

/-- A four-byte field of a frame. -/
abbrev Quad := BitVec 32

end Sys2Proof
end

