-- ==== Sys2Proof/Syntax.lean ====
section
/-! DEFINITION. The commands of the block: one constructor per row of spec/opcode_table.json. A row that is a command
of the vehicle computer carries the fields of its payload as they travel (section 10.9, Command payloads), so that a
field out of range is a term of this type and is refused by its meaning. A row that is an input, a timer or another
internal cause carries what it concerns: a channel, an actuator, a heater, a line, a level. -/

namespace Sys2Proof

/-- The eleven actuators of section 5.1, in the order of their numbers 0 to 10. -/
inductive Actuator where
  | mb | ka | kd | rc | ta | td | es | is0 | is1 | is2 | is3
  deriving DecidableEq, Repr

/-- The two positions of an actuator (5.1); for TA they are T25 and T15, for TD they are D3 and D15. -/
inductive Place where
  | opened | closed
  deriving DecidableEq, Repr

/-- The two traction input paths: AC through KA and TA, DC through KD and TD (5.5). -/
inductive Path where
  | ac | dc
  deriving DecidableEq, Repr

/-- A section record as it travels: 15 bytes (10.9, Codes). -/
structure RawRecord where
  kind : Byte
  supply : Byte
  headFit : Byte
  ice : Byte
  gapLo : Quad
  gapHi : Quad
  supplyLo : Byte
  supplyHi : Byte
  lowerInGap : Byte
  deriving DecidableEq, Repr

/-- The fields of MAPS: key, pinned flag, head record, and a boundary with its tail record in the longer form. -/
structure SpanFields where
  route : Half
  granule : Half
  pinned : Byte
  head : RawRecord
  tail : Option (Byte × RawRecord)
  deriving DecidableEq, Repr

/-- The fields of the WRITE variant of MAPZ after slot and variant. -/
structure ZoneFields where
  route : Half
  base : Half
  sizeCode : Byte
  record : RawRecord
  deriving DecidableEq, Repr

/-- One point of a force table as it travels: speed in km/h, force in newtons (FTAB). -/
structure RawPoint where
  speed : Half
  force : Half
  deriving DecidableEq, Repr

/-- The rows of spec/opcode_table.json, in the table's order. -/
inductive Instr where
  | powerOn
  | axleTransition (a b : Bool)
  | speedIntervalEnd
  | fixCapture
  | fixp (seq : Byte) (truePos : Quad) (route : Half) (sense : Byte)
  | mapSweep
  | maps (f : SpanFields)
  | mapd (slot : Byte) (f : SpanFields)
  | mapz (slot : Byte) (write : Option ZoneFields)
  | mapp (route granule : Half)
  | mapc (variant : Byte)
  | mapr (table slot : Byte)
  | mapq (route : Half) (point : Quad)
  | sampleReceive (sample : Half)
  | samplePeriodEnd
  | windowEnd
  | rais (channel : Byte)
  | lowr (channel : Byte)
  | armc (channel : Byte)
  | snap (channel : Byte)
  | isolIsolate (channel : Byte)
  | isolRestore (channel : Byte)
  | ftab (headType : Byte) (points : Vector RawPoint 8)
  | strokePressEnd (n : Fin 4)
  | strokePauseEnd (n : Fin 4)
  | riseTimeout (n : Fin 4)
  | contactAssert (n : Fin 4)
  | contactLoss (n : Fin 4)
  | contactTimeout (n : Fin 4)
  | fallTimeout (n : Fin 4)
  | housedAssert (n : Fin 4)
  | housedLoss (n : Fin 4)
  | stripAssert (n : Fin 4)
  | emergAssert
  | emergRelease
  | airokChange (level : Bool)
  | settleSample (a : Actuator)
  | positionFeedbackChange (a : Actuator) (p : Place)
  | travelFeedbackChange (a : Actuator) (level : Bool)
  | motionTimeout (a : Actuator)
  | guardTimerEnd (p : Path)
  | fclr (actuator : Byte)
  | brkc
  | brko
  | erthOn
  | erthOff
  | sels (target : Byte)
  | peerWaitTimeout
  | proveTimeout
  | chng (target : Byte)
  | cabt
  | cack
  | heaterSecond (h : Fin 6)
  | heat (heater priority : Byte) (seconds : Half)
  | frstOn
  | frstOff
  | scrpOn
  | scrpOff
  | gtInChange (level : Bool)
  | rqInChange (level : Bool)
  | cplInChange (level : Bool)
  | peerOn
  | peerOff
  | evrtRead (target number : Byte)
  | evrtWriteEvent (number notify mask : Byte)
  | evrtWriteLine (number mode : Byte) (length : Half)
  | slak (mask : Byte)
  | pulseEnd (l : Fin 3)
  | frameReceived (chars : List Byte)
  | characterError
  | frameGapTimeout
  | unknownCommand (kind tag : Byte)
  | transmitFrameEnd
  | modeRun
  | modeStandby
  | rstw
  | setp (number : Byte) (value : Half)
  | getp (number : Byte)
  | stat
  | stripRelease (n : Fin 4)
  | overLongPayloadLength
  deriving DecidableEq, Repr

end Sys2Proof
end

