-- ==== Sys2Proof/Decode.lean ====
section
/-! DEFINITION. The command a word spells by the bits of spec/opcode_table.json. No row of that table gives bits: the
commands of the vehicle computer travel as framed bytes, which Machine/VehicleLink.lean reads by section 10.9, and the
other rows are inputs and timers that no word spells. -/

namespace Sys2Proof

/-- The command whose row's bits the word spells; no row gives bits, so no word spells one. -/
def decodeTableWord (_nbits _w : Nat) : Option Instr := none

end Sys2Proof
end

