-- ==== Sys2Proof/Config.lean ====
section
/-! DEFINITION. What the manual fixes for the part: limits, capacities and times. The unit of time of the model is the
sample period of R43, 250 µs, called a tick; every interval the manual gives in milliseconds, in units of 20 ms or
100 ms or in seconds is a whole number of ticks. -/

namespace Sys2Proof.Config

/-- The largest route position in metres (00_scope, Units and ranges). -/
def maxM : Nat := 4194303

/-- The largest granule number, `maxM / 256` (chapter 2). -/
def maxGranule : Nat := 16383

/-- The largest route number (1.1). -/
def maxRoute : Nat := 4095

/-- The longest gap a record may describe, in metres (R19). -/
def maxGapLen : Nat := 2000

/-- Places in the gap watch list (R28). -/
def watchPlaces : Nat := 4

/-- Places in the notice queue (R182). -/
def queuePlaces : Nat := 16

/-- Records an arc ring holds (R69). -/
def arcPlaces : Nat := 16

/-- The largest payload of a frame (R187). -/
def maxPayload : Nat := 48

/-- Sample periods in a window (R44). -/
def windowPeriods : Nat := 960

/-- The start byte of a frame (R187). -/
def startByte : Byte := 0xC3

/-- Ticks of 250 µs in `n` milliseconds (R43: 4,000 sample periods per second). -/
def ms (n : Nat) : Nat := 4 * n

/-- Ticks in `n` seconds. -/
def sec (n : Nat) : Nat := ms (1000 * n)

/-- Ticks in `n` settle or guard units of 20 ms (00_scope, Units and ranges). -/
def units20 (n : Nat) : Nat := ms (20 * n)

/-- Ticks in `n` stroke units of 100 ms. -/
def units100 (n : Nat) : Nat := ms (100 * n)

/-- The speed interval, 200 ms (R9). -/
def speedInterval : Nat := ms 200

/-- The time after which an unconfirmed motion faults, 3 s (R90, R91). -/
def motionLimit : Nat := sec 3

/-- The longest pause between two characters of a frame, 5 ms (R187). -/
def frameGap : Nat := ms 5

end Sys2Proof.Config
end

