-- ==== Sys2Proof/Machine/State.lean ====
section
/-! DEFINITION. Every piece of state the manual gives the ten blocks, the levels of the part's inputs, and three fields of
the model's own: the queue of waiting commands, the hand-offs between blocks not yet acted on, and the marks that tell
how far a step of a rule has come. INVENTORY.md lists each with its rule. All of it is plain data. -/

namespace Sys2Proof.Machine

open Config

/-! ## Named values (section 10.9, Codes) -/

/-- The four supply systems (00_scope). -/
inductive System where
  | ac25 | ac15 | dc3 | dc15
  deriving DecidableEq, Repr

/-- The confirmed line state (3.1). -/
inductive LineState where
  | sys (x : System) | dead | over | unknown
  deriving DecidableEq, Repr

/-- The result of one window (3.1). -/
inductive WinResult where
  | sys (x : System) | dead | over | uncertain
  deriving DecidableEq, Repr

/-- Route sense (1.1). -/
inductive Sense where
  | plus | minus
  deriving DecidableEq, Repr

/-- Travel direction (1.1). -/
inductive Dir where
  | ascending | descending
  deriving DecidableEq, Repr

/-- The crossing detector's last side of zero (R46). -/
inductive Cross where
  | none | pos | neg
  deriving DecidableEq, Repr

/-- Head types (4.1). -/
inductive HeadType where
  | narrow | wide
  deriving DecidableEq, Repr

/-- Head fit of a section record (2.1). -/
inductive HeadFit where
  | narrow | wide | any
  deriving DecidableEq, Repr

/-- Roof ends (4.1). -/
inductive RoofEnd where
  | a | b
  deriving DecidableEq, Repr

/-- Channel states (4.3). -/
inductive ChState where
  | isolated | down | stroking | rising | up | falling | stuck
  deriving DecidableEq, Repr

/-- Channel roles (4.2). -/
inductive Role where
  | none | collector | scraper
  deriving DecidableEq, Repr

/-- Fall causes, latch causes and the causes CH_STATE carries (4.3, 10.9). -/
inductive Cause where
  | command | zone | riseTimeout | contactLost | strip | emerg | uncommanded | breakerFail | earth | reset | powerOn | raise
  deriving DecidableEq, Repr

/-- The confirmed position of an actuator (5.1). -/
inductive Confirmed where
  | opened | closed | unsure
  deriving DecidableEq, Repr

/-- The state of the confirmation of an actuator's last command (5.1). -/
inductive Motion where
  | none | settling | travel
  deriving DecidableEq, Repr

/-- Who asked for a motion (5.3): the vehicle computer, the path change procedure, the sequencer, a channel's isolator,
the roof line link, or the reason set and auto reclose. -/
inductive Requester where
  | host | procedure | sequencer | channel | link | reasons
  deriving DecidableEq, Repr

/-- Kinds of actuator fault (R92). -/
inductive FaultKind where
  | noMatch | timeout | uncommanded
  deriving DecidableEq, Repr

/-- Steps of the path change procedure other than IDLE (R102). -/
inductive ProcStep where
  | openingPath | guard | settingTap | closingPath
  deriving DecidableEq, Repr

/-- The two callers of the path change procedure (5.6). -/
inductive Caller where
  | sels | sequencer
  deriving DecidableEq, Repr

/-- Stages of the changeover sequencer (6.1). -/
inductive Stage where
  | idle | armed | opening | lowering | switching | waiting | raising | proving | closing | failed
  deriving DecidableEq, Repr

/-- Holds, in the order of 6.4, highest first. -/
inductive Hold where
  | emerg | act | guard | earth | air | peer | ice | nochan | pos | line
  deriving DecidableEq, Repr

/-- Failure reasons (6.5). -/
inductive FailReason where
  | timeoutLower | timeoutRaise | timeoutProve | actuator | strip | emerg | reversed | standby | abort | peer | nochan
  deriving DecidableEq, Repr

/-- What armed a plan (6.1). -/
inductive Origin where
  | route | manual
  deriving DecidableEq, Repr

/-- The conditions that refuse a raise: the nine of R64 in their order, and BUSY for a channel not DOWN (R65). -/
inductive RaiseBar where
  | latched | air | earth | emerg | system | zone | collector | peer | sequencer | busy
  deriving DecidableEq, Repr

/-- What became of the sequencer's request for the path change procedure (R126). -/
inductive SwitchWait where
  | none | busy | interlock | running | done
  deriving DecidableEq, Repr

/-- Origins of a heat demand (7.1). -/
inductive HeatOrigin where
  | host | auto
  deriving DecidableEq, Repr

/-- Link roles, parameter P40 (R164). -/
inductive LinkRole where
  | alone | senior | junior
  deriving DecidableEq, Repr

/-- Link states of the junior and of the senior side (8.2, 8.3). -/
inductive LinkState where
  | detached | asking | coupling | coupled | uncoupling | holding | granting | withheld
  deriving DecidableEq, Repr

/-- The mode (10.5). -/
inductive Mode where
  | run | standby
  deriving DecidableEq, Repr

/-- Receive states (10.1). -/
inductive RxState where
  | hunt | header | payload | check
  deriving DecidableEq, Repr

/-- Outcomes of commands (00_scope, Commands, answers and outcomes). -/
inductive CmdOutcome where
  | done | accepted | clamped | unknown | length | range | mode | busy | interlock | full | stale | align | kind | fault
  deriving DecidableEq, Repr

/-! ## Route map -/

/-- The gap part of a section record (2.1). -/
structure GapPart where
  lo : Nat
  hi : Nat
  supplyLo : System
  supplyHi : System
  lowerInGap : Bool
  deriving DecidableEq, Repr

/-- The kind of a section record with what that kind carries (2.1). -/
inductive Stretch where
  | openLine (supply : System)
  | phaseGap (g : GapPart)
  | systemGap (g : GapPart)
  | lowerZone (supply : System)
  deriving DecidableEq, Repr

/-- A section record (2.1). -/
structure SectionRec where
  fit : HeadFit
  ice : Bool
  stretch : Stretch
  deriving DecidableEq, Repr

/-- What the check code of a span entry is computed over: key, records, boundary and pinned flag (2.2). -/
structure SpanContent where
  route : Nat
  granule : Nat
  pinned : Bool
  head : SectionRec
  tail : Option (Nat × SectionRec)
  deriving DecidableEq, Repr

/-- A span entry. `code` is the content the check code was computed over (log entry 3): the check holds when it equals
the stored content. -/
structure SpanEntry where
  valid : Bool
  barred : Bool
  used : Bool
  content : SpanContent
  code : SpanContent
  deriving DecidableEq, Repr

/-- What the check code of a zone entry is computed over (2.2). -/
structure ZoneContent where
  route : Nat
  base : Nat
  sizeCode : Nat
  record : SectionRec
  deriving DecidableEq, Repr

/-- A zone entry, with its check code held as in `SpanEntry`. -/
structure ZoneEntry where
  valid : Bool
  content : ZoneContent
  code : ZoneContent
  deriving DecidableEq, Repr

/-- A slot of one of the two tables, as ENTRY_FAULT and MAPQ name it. -/
inductive SlotRef where
  | span (slot : Nat) (tail : Bool)
  | zone (slot : Nat)
  deriving DecidableEq, Repr

/-- The record a lookup gave, its source, and the boundary of the span entry that answered (R23, R24). -/
structure ProbeHit where
  record : SectionRec
  source : SlotRef
  boundary : Option Nat
  deriving DecidableEq, Repr

/-- The most recent probe at one probe point: where it was made and what it gave (2.4). -/
structure Probe where
  point : Int
  hit : Option ProbeHit
  deriving DecidableEq, Repr

/-- One record of the gap watch list: a gap part with its kind (2.5). -/
structure WatchGap where
  system : Bool
  gap : GapPart
  deriving DecidableEq, Repr

/-- State of the Route Map. -/
structure Rmap where
  spans : Vector SpanEntry 40
  zones : Vector ZoneEntry 6
  current : Probe
  ahead : Probe
  watch : List WatchGap
  short : Bool
  deriving DecidableEq, Repr

/-! ## Position Unit -/

/-- The capture of the last fix that FIXP has not yet consumed (1.1). -/
structure Capture where
  m : Nat
  u : Nat
  deriving DecidableEq, Repr

/-- State of the Position Unit (1.1). The phase reference is the last pair of levels of A and B. -/
structure Pos where
  phaseA : Bool
  phaseB : Bool
  m : Nat
  u : Nat
  range : Bool
  route : Nat
  sense : Sense
  dir : Dir
  reversal : Nat
  gate : Nat
  speed : Nat
  slot : Option Capture
  slotSeq : Nat
  /-- ticks to the end of the speed interval in course -/
  gateLeft : Nat
  deriving DecidableEq, Repr

/-! ## Line Classifier -/

/-- The figures of the most recent finished window (3.1). -/
structure WindowRec where
  result : WinResult
  mean : Int
  rac : Nat
  z : Nat
  c : Nat
  missing : Bool
  deriving DecidableEq, Repr

/-- State of the Line Classifier (3.1). `sampled` tells that the period in course has its sample (R43); `endDue` tells
that the 960th period has ended and the window waits for its evaluation (log entry 6). -/
structure Lcl where
  count : Nat
  sampled : Bool
  endDue : Bool
  s1 : Int
  s2 : Nat
  c : Nat
  z : Nat
  missing : Bool
  cross : Cross
  crossStart : Cross
  last : Option WindowRec
  candidate : Option WinResult
  streak : Nat
  line : LineState
  deriving DecidableEq, Repr

/-! ## Pantograph Channels -/

/-- The drop snapshot (R79). -/
structure Snapshot where
  cause : Cause
  m : Nat
  speed : Nat
  line : LineState
  prior : ChState
  role : Role
  setpoint : Nat
  breaker : Confirmed
  stage : Stage
  consumed : Bool
  overwrote : Bool
  deriving DecidableEq, Repr

/-- Stroke progress: the stroke's number, whether it is in its press, and the ticks left of the phase (R67). -/
structure Stroke where
  number : Nat
  press : Bool
  left : Nat
  deriving DecidableEq, Repr

/-- A contact loss in course: the position where it began, the limit read, and the ticks run (R69). -/
structure ContactLoss where
  m : Nat
  limit : Nat
  run : Nat
  deriving DecidableEq, Repr

/-- An arc record: where it began and its duration in milliseconds (R69). -/
structure Arc where
  m : Nat
  ms : Nat
  deriving DecidableEq, Repr

/-- State of one channel (4.2). The latch is clear or set with its cause. Timers count ticks left. -/
structure Channel where
  state : ChState
  role : Role
  fallCause : Option Cause
  latch : Option Cause
  snapshot : Option Snapshot
  setpoint : Nat
  stroke : Option Stroke
  rise : Option Nat
  fall : Option Nat
  contact : Option ContactLoss
  arcs : List Arc
  suspect : Bool
  deriving DecidableEq, Repr

/-- A point of a force table: speed in km/h, force in newtons (4.9). -/
structure ForcePoint where
  speed : Nat
  force : Nat
  deriving DecidableEq, Repr

/-- The two force tables (4.9). -/
structure ForceTables where
  narrow : Vector ForcePoint 8
  wide : Vector ForcePoint 8
  deriving DecidableEq, Repr

/-! ## Switchgear Drive -/

/-- The record of one actuator (5.1). `elapsed` is the time since the motion start, `settle` the settle count read at
it. -/
structure ActRec where
  commanded : Place
  confirmed : Confirmed
  motion : Motion
  elapsed : Nat
  settle : Nat
  pending : Option (Place × Requester)
  fault : Bool
  deriving DecidableEq, Repr

/-- The path change procedure while it is not IDLE (5.6). `commanded` holds the actuators it has commanded, in step order
(R103, R126): the contactors of OPENING_PATH from its start, each later one once its step commands it. -/
structure Proc where
  step : ProcStep
  target : Option System
  caller : Caller
  commanded : List Actuator
  deriving DecidableEq, Repr

/-- The breaker open-reason set (5.8). -/
structure Reasons where
  line : Bool
  gap : Bool
  seq : Bool
  seqfail : Bool
  emerg : Bool
  drop : Bool
  earth : Bool
  selftrip : Bool
  hold : Bool
  stby : Bool
  peer : Bool
  weld : Bool
  deriving DecidableEq, Repr

/-- State of the Switchgear Drive. `selected` is the selected system of R101 as last handed on. -/
structure Sgd where
  acts : Vector ActRec 11
  guardKa : Option Nat
  guardKd : Option Nat
  proc : Option Proc
  isoWait : Option (Fin 4)
  reasons : Reasons
  armed : Bool
  selected : Option System
  deriving DecidableEq, Repr

/-! ## Changeover Sequencer -/

/-- The part of a plan that a manual plan has not: edges and travel direction (6.1). -/
structure PlanRoute where
  approach : Nat
  far : Nat
  dir : Dir
  deriving DecidableEq, Repr

/-- The plan record (6.1); its stage and failure reason stand beside it in `Csq`. A plan with no `route` is MANUAL. -/
structure Plan where
  source : Option System
  target : System
  route : Option PlanRoute
  lowerNeeded : Bool
  old : Option (Fin 4)
  tgt : Option (Fin 4)
  fed : Bool
  deriving DecidableEq, Repr

/-- State of the Changeover Sequencer. The declined gap is named by its gap_lo and gap_hi. `waitFor` holds the channels
LOWERING waits on (R125). -/
structure Csq where
  stage : Stage
  plan : Option Plan
  failReason : Option FailReason
  timer : Option Nat
  declined : Option (Nat × Nat)
  retry : Option RaiseBar
  switchWait : SwitchWait
  waitFor : List (Fin 4)
  deriving DecidableEq, Repr

/-! ## Ice Clearing Unit -/

/-- A heat list entry (7.1). -/
structure HeatEntry where
  heater : Fin 6
  origin : HeatOrigin
  priority : Nat
  remaining : Nat
  deriving DecidableEq, Repr

/-- State of the Ice Clearing Unit. Second progress counts ticks, 4,000 to the second (R148). -/
structure Icu where
  budget : Nat
  list : List HeatEntry
  grant : List (Fin 6)
  progress : Vector Nat 6
  demand : Vector Bool 4
  frost : Bool
  scrapeEnable : Bool
  inhibit : Bool
  scraper : Option (Fin 4)
  deriving DecidableEq, Repr

/-! ## Roof Line Link -/

/-- State of the Roof Line Link; its role is parameter P40 (8.1). -/
structure Rll where
  state : LinkState
  rq : Bool
  gt : Bool
  cpl : Bool
  conflict : Bool
  detach : Bool
  deriving DecidableEq, Repr

/-! ## Events and the Event Router -/

/-- The 24 events with the fields they carry (9.1). -/
inductive Event where
  | fixCapture (seq m : Nat)
  | dirChange (d : Dir) (m : Nat)
  | odoRange (m : Nat) (upper : Bool)
  | odoGlitch (m : Nat)
  | sectionChange (m : Nat) (r : SectionRec)
  | missHere (m : Nat)
  | missAhead (point : Int) (full : Bool)
  | entryFault (slot : SlotRef)
  | lineChange (previous new : LineState) (w : WindowRec)
  | chState (n : Fin 4) (st : ChState) (role : Role) (cause : Cause)
  | drop (n : Fin 4) (cause : Cause) (prior : ChState) (m : Nat)
  | iceSuspect (n : Fin 4) (flag : Bool) (count : Nat)
  | mbChange (mb : ActRec) (armed : Bool) (reasons : Reasons)
  | actFault (a : Actuator) (kind : FaultKind) (commanded feedback : Place)
  | weld (ka kd : Place)
  | selfTrip (m : Nat) (line : LineState) (reasons : Reasons)
  | coArmed (origin : Origin) (source : Option System) (target : System) (tgt : Option (Fin 4)) (edge : Option Nat)
  | coStage (stage : Stage) (hold : Option Hold) (target : Option System) (tgt : Option (Fin 4)) (m : Nat)
  | coDone (origin : Origin) (target : System) (m : Nat)
  | coFail (reason : FailReason) (stage : Stage) (m : Nat)
  | heatChange (grant : List (Fin 6)) (budget sum : Nat)
  | scrapeChange (previous new : Option (Fin 4)) (m : Nat)
  | peerChange (role : LinkRole) (st : LinkState) (rq gt cpl conflict : Bool)
  | peerConflict (role : LinkRole) (gtIn : Bool) (st : LinkState)
  deriving DecidableEq, Repr

/-- A queued notice (9.2). -/
structure Notice where
  event : Event
  coalesced : Bool
  deriving DecidableEq, Repr

/-- A route entry: notify flag and line mask (9.2). -/
structure RouteEntry where
  notify : Bool
  mask : BitVec 3
  deriving DecidableEq, Repr

/-- A signal line: its configuration, level, pulse timer (ticks left) and first cause (9.2). -/
structure SignalLine where
  latch : Bool
  length : Nat
  active : Bool
  timer : Option Nat
  first : Option Nat
  deriving DecidableEq, Repr

/-- State of the Event Router. -/
structure Evr where
  routes : Vector RouteEntry 24
  lines : Vector SignalLine 3
  queue : List Notice
  lost : Bool
  deriving DecidableEq, Repr

/-! ## Vehicle Link Port -/

/-- A frame the transmitter sends: its start byte, length and check follow from these (10.9). -/
structure TxFrame where
  kind : Byte
  tag : Byte
  payload : List Byte
  deriving DecidableEq, Repr

/-- What a received command frame asks: a command of the table, or one already refused by kind, length or a code that
names no variant. -/
inductive Content where
  | command (i : Instr)
  | refused (o : CmdOutcome) (detail : Nat)
  deriving DecidableEq, Repr

/-- A received command (10.2). -/
structure Received where
  kind : Byte
  tag : Byte
  content : Content
  deriving DecidableEq, Repr

/-- State of the Vehicle Link Port. `carrying` is set while the command in hand is carried out and has no answer yet;
`inHand` holds answers made and not begun to be sent; `tx` is none while the transmitter is IDLE; `resetPending` is set
from the answer to RSTW to the warm reset. -/
structure Vlp where
  rx : RxState
  rxBuf : List Byte
  rxSince : Nat
  linkError : Bool
  overrun : Bool
  carrying : Bool
  inHand : List TxFrame
  waiting : Option Received
  tx : Option TxFrame
  txElapsed : Nat
  resetPending : Bool
  deriving DecidableEq, Repr

/-! ## Inputs -/

/-- The levels of the hardwired inputs (00_scope, Signal summary); A and B are in `Pos`. -/
structure Inputs where
  emerg : Bool
  airok : Bool
  housed : Vector Bool 4
  contact : Vector Bool 4
  strip : Vector Bool 4
  feedback : Vector Place 11
  travelTa : Bool
  travelTd : Bool
  travelEs : Bool
  rqIn : Bool
  gtIn : Bool
  cplIn : Bool
  deriving DecidableEq, Repr

/-! ## Hand-offs between blocks -/

/-- A change one block hands to the others, or a test a block owes (the rules say "is handed to"). -/
inductive Signal where
  | mapRound
  | rangeSet
  | moved
  | sequencerMoved
  | openingTest
  | mark
  | currentChanged
  | listChanged (cleared : Bool)
  | lineChanged
  | speedUpdated
  | leadingEnd
  | reversal
  | chChanged (n : Fin 4) (previous new : ChState)
  | latchSet (n : Fin 4)
  | latchCleared (n : Fin 4)
  | suspectChanged (n : Fin 4)
  | actConfirmed (a : Actuator) (previous : Confirmed)
  | actCommanded (a : Actuator)
  | actFaulted (a : Actuator)
  | breakerFail
  | issuePending (a : Actuator)
  | selectedChanged
  | procRun
  | procDone (c : Caller)
  | procFailed (c : Caller) (a : Actuator)
  | stageEntered (st : Stage)
  | sequencerRun
  | sequencerArm
  | sequencerDerive
  | sequencerFail (r : FailReason)
  | raiseRetry (b : RaiseBar)
  | scraperEval
  | linkChanged
  | linkRun
  | modeChanged
  | rerate
  deriving DecidableEq, Repr

/-! ## The whole state -/

/-- The whole state of the part. `pending` is the queue of commands that wait, first in, first out. `work` holds the
hand-offs not yet acted on; it is empty between steps (log entry 2). -/
structure State where
  inp : Inputs
  pos : Pos
  rmap : Rmap
  lcl : Lcl
  chans : Vector Channel 4
  ftabs : ForceTables
  sgd : Sgd
  csq : Csq
  icu : Icu
  rll : Rll
  evr : Evr
  vlp : Vlp
  mode : Mode
  params : Vector Nat 46
  pending : List Instr
  work : List Signal
  deriving DecidableEq, Repr

/-- Why a step may stop with a fault. The manual describes an effect for every command in every state, so no meaning
raises a fault and the type has no constructor; a run of this model never stops with one. -/
inductive Fault where
  deriving DecidableEq, Repr

/-- Why a step may refuse a command. Outcomes that the manual calls refusals (RANGE, BUSY, INTERLOCK and the others) are
answers the part gives, not refusals of the model. -/
inductive Refusal where
  /-- Raised by `exec` for a command that has no meaning yet: safe. No arm of `exec` raises it. -/
  | notModelled (mnemonic : String)
  deriving DecidableEq, Repr

/-! ## Power-on values -/

/-- A section record of an entry that was never written (log entry 4). -/
def blankRecord : SectionRec := { fit := .narrow, ice := false, stretch := .openLine .ac25 }

/-- The content of a span entry that was never written (log entry 4). -/
def blankSpan : SpanContent := { route := 0, granule := 0, pinned := false, head := blankRecord, tail := none }

/-- A span entry after power-on: invalid with its flags clear (R41). -/
def SpanEntry.powerOn : SpanEntry :=
  { valid := false, barred := false, used := false, content := blankSpan, code := blankSpan }

/-- The content of a zone entry that was never written (log entry 4). -/
def blankZone : ZoneContent := { route := 0, base := 0, sizeCode := 3, record := blankRecord }

/-- A zone entry after power-on: invalid (R41). -/
def ZoneEntry.powerOn : ZoneEntry := { valid := false, content := blankZone, code := blankZone }

/-- Parameter defaults P01 to P46 (10.7, 4.1). -/
def paramDefaults : Vector Nat 46 :=
  #v[2830, 3000, 400, 60, 3, 1, 250, 500, 15, 15, 15, 15, 8, 10, 3, 50, 300, 25, 300, 2200, 1000, 6, 3, 8, 6, 120,
     40, 40, 24, 12, 6, 6, 6, 6, 8, 8, 600, 1, 1, 0, 4, 0x0500, 0x0A01, 0x0502, 0x0A03, 500]

/-- The default force table (4.9). -/
def defaultTable : Vector ForcePoint 8 :=
  #v[⟨0, 70⟩, ⟨100, 80⟩, ⟨200, 100⟩, ⟨250, 115⟩, ⟨300, 135⟩, ⟨320, 145⟩, ⟨350, 160⟩, ⟨400, 180⟩]

/-- The route map after power-on (R41). The probe points are those of M = 0 ascending (log entry 5). -/
def Rmap.powerOn : Rmap :=
  { spans := Vector.replicate 40 SpanEntry.powerOn
    zones := Vector.replicate 6 ZoneEntry.powerOn
    current := { point := 0, hit := none }
    ahead := { point := 3000, hit := none }
    watch := []
    short := true }

/-- The Position Unit after power-on, with the phase reference at the levels of A and B (R17). -/
def Pos.powerOn (a b : Bool) : Pos :=
  { phaseA := a, phaseB := b, m := 0, u := 0, range := false, route := 0, sense := .plus, dir := .ascending
    reversal := 0, gate := 0, speed := 0, slot := none, slotSeq := 0, gateLeft := speedInterval }

/-- The classifier after power-on and after warm reset (R55, R56). -/
def Lcl.initial : Lcl :=
  { count := 0, sampled := false, endDue := false, s1 := 0, s2 := 0, c := 0, z := 0, missing := false
    cross := .none, crossStart := .none, last := none, candidate := none, streak := 0, line := .unknown }

/-- A DOWN channel after power-on with HOUSED asserted (R87). -/
def Channel.powerOnDown : Channel :=
  { state := .down, role := .none, fallCause := none, latch := some .powerOn, snapshot := none, setpoint := 0
    stroke := none, rise := none, fall := none, contact := none, arcs := [], suspect := false }

/-- An actuator at rest, commanded and confirmed OPEN (R114). -/
def ActRec.restOpen : ActRec :=
  { commanded := .opened, confirmed := .opened, motion := .none, elapsed := 0, settle := 0, pending := none, fault := false }

/-- The sequencer after either reset (R142). -/
def Csq.initial : Csq :=
  { stage := .idle, plan := none, failReason := none, timer := none, declined := none, retry := none
    switchWait := .none, waitFor := [] }

/-- The Ice Clearing Unit after either reset (R162). -/
def Icu.initial : Icu :=
  { budget := 0, list := [], grant := [], progress := Vector.replicate 6 0, demand := Vector.replicate 4 false
    frost := false, scrapeEnable := false, inhibit := false, scraper := none }

/-- The Roof Line Link after power-on (R175). -/
def Rll.powerOn : Rll :=
  { state := .detached, rq := false, gt := false, cpl := false, conflict := false, detach := false }

/-- The Event Router after power-on (R185). -/
def Evr.powerOn : Evr :=
  { routes := Vector.replicate 24 { notify := true, mask := 0 }
    lines := Vector.replicate 3 { latch := false, length := 500, active := false, timer := none, first := none }
    queue := []
    lost := false }

/-- The Vehicle Link Port after power-on (R196). -/
def Vlp.initial : Vlp :=
  { rx := .hunt, rxBuf := [], rxSince := 0, linkError := false, overrun := false, carrying := false, inHand := []
    waiting := none, tx := none, txElapsed := 0, resetPending := false }

/-- The input levels of the roof at rest and in order: heads housed, air sufficient, every feedback OPEN and every other
input inactive (log entry 1). -/
def Inputs.rest : Inputs :=
  { emerg := false, airok := true, housed := Vector.replicate 4 true, contact := Vector.replicate 4 false
    strip := Vector.replicate 4 false, feedback := Vector.replicate 11 .opened, travelTa := false, travelTd := false
    travelEs := false, rqIn := false, gtIn := false, cplIn := false }

/-- The open-reason set after power-on with the roof at rest: LINE, DROP and STBY (R108, R114). -/
def Reasons.powerOnRest : Reasons :=
  { line := true, gap := false, seq := false, seqfail := false, emerg := false, drop := true, earth := false
    selftrip := false, hold := false, stby := true, peer := false, weld := false }

/-- The part right after power-on reset with the roof at rest (R17, R41, R55, R87, R114, R142, R162, R175, R185, R196). -/
def State.reset : State :=
  { inp := Inputs.rest
    pos := Pos.powerOn false false
    rmap := Rmap.powerOn
    lcl := Lcl.initial
    chans := Vector.replicate 4 Channel.powerOnDown
    ftabs := { narrow := defaultTable, wide := defaultTable }
    sgd :=
      { acts := Vector.replicate 11 ActRec.restOpen
        guardKa := some (units20 15)
        guardKd := some (units20 15)
        proc := none
        isoWait := none
        reasons := Reasons.powerOnRest
        armed := false
        selected := none }
    csq := Csq.initial
    icu := Icu.initial
    rll := Rll.powerOn
    evr := Evr.powerOn
    vlp := Vlp.initial
    mode := .standby
    params := paramDefaults
    pending := []
    work := [] }

/-! ## Updates, one per field; Laws/State.lean holds their lemmas -/

def State.withInp (s : State) (x : Inputs) : State := { s with inp := x }
def State.withPos (s : State) (x : Pos) : State := { s with pos := x }
def State.withRmap (s : State) (x : Rmap) : State := { s with rmap := x }
def State.withLcl (s : State) (x : Lcl) : State := { s with lcl := x }
def State.withChans (s : State) (x : Vector Channel 4) : State := { s with chans := x }
def State.withFtabs (s : State) (x : ForceTables) : State := { s with ftabs := x }
def State.withSgd (s : State) (x : Sgd) : State := { s with sgd := x }
def State.withCsq (s : State) (x : Csq) : State := { s with csq := x }
def State.withIcu (s : State) (x : Icu) : State := { s with icu := x }
def State.withRll (s : State) (x : Rll) : State := { s with rll := x }
def State.withEvr (s : State) (x : Evr) : State := { s with evr := x }
def State.withVlp (s : State) (x : Vlp) : State := { s with vlp := x }
def State.withMode (s : State) (x : Mode) : State := { s with mode := x }
def State.withParams (s : State) (x : Vector Nat 46) : State := { s with params := x }
def State.withPending (s : State) (x : List Instr) : State := { s with pending := x }
def State.withWork (s : State) (x : List Signal) : State := { s with work := x }

end Sys2Proof.Machine
end

