-- ==== Sys2Proof/Machine/Ops.lean ====
section
/-! DEFINITION. The named operations every block uses: reading and writing one channel, actuator or parameter, handing a
change on, raising an event (chapter 9), and making an answer (10.2, 10.3). -/

namespace Sys2Proof.Machine

open Config

/-! ## Reading and writing numbered things -/

/-- Channel n. -/
def State.ch (s : State) (n : Fin 4) : Channel := s.chans.get n

/-- Channel n replaced. -/
def State.setCh (s : State) (n : Fin 4) (c : Channel) : State := s.withChans (s.chans.set n.val c n.isLt)

/-- The number of an actuator (5.1). -/
def actNo : Actuator → Fin 11
  | .mb => 0 | .ka => 1 | .kd => 2 | .rc => 3 | .ta => 4 | .td => 5 | .es => 6 | .is0 => 7 | .is1 => 8 | .is2 => 9 | .is3 => 10

/-- The actuator of a number, none above 10. -/
def actOfNo : Nat → Option Actuator
  | 0 => some .mb | 1 => some .ka | 2 => some .kd | 3 => some .rc | 4 => some .ta | 5 => some .td | 6 => some .es
  | 7 => some .is0 | 8 => some .is1 | 9 => some .is2 | 10 => some .is3 | _ => none

/-- The isolator of channel n. -/
def isoOf (n : Fin 4) : Actuator :=
  match n with
  | 0 => .is0 | 1 => .is1 | 2 => .is2 | 3 => .is3

/-- The channel of an isolator. -/
def chanOfIso : Actuator → Option (Fin 4)
  | .is0 => some 0 | .is1 => some 1 | .is2 => some 2 | .is3 => some 3 | _ => none

/-- The record of an actuator. -/
def State.act (s : State) (a : Actuator) : ActRec := s.sgd.acts.get (actNo a)

/-- The record of an actuator replaced. -/
def State.setAct (s : State) (a : Actuator) (r : ActRec) : State :=
  s.withSgd { s.sgd with acts := s.sgd.acts.set (actNo a).val r (actNo a).isLt }

/-- The position feedback of an actuator. -/
def State.fb (s : State) (a : Actuator) : Place := s.inp.feedback.get (actNo a)

/-- The travel feedback of an actuator; only TA, TD and ES have one (5.1). -/
def State.travel (s : State) : Actuator → Bool
  | .ta => s.inp.travelTa
  | .td => s.inp.travelTd
  | .es => s.inp.travelEs
  | _ => false

/-- Parameter P n (10.7). -/
def State.par (s : State) (n : Nat) : Nat := s.params.toList.getD (n - 1) 0

/-- Channels in their order. -/
def channels : List (Fin 4) := [0, 1, 2, 3]

/-- Actuators in their order. -/
def actuators : List Actuator := [.mb, .ka, .kd, .rc, .ta, .td, .es, .is0, .is1, .is2, .is3]

/-- Isolators in their order. -/
def isolators : List Actuator := [.is0, .is1, .is2, .is3]

/-- Heaters in their order. -/
def heaters : List (Fin 6) := [0, 1, 2, 3, 4, 5]

/-- The word a position feedback gives as a confirmed position. -/
def confirmedAt : Place → Confirmed
  | .opened => .opened
  | .closed => .closed

/-! ## Configurations and derived views -/

/-- The configuration word of channel n, P42 to P45 (4.1, 10.7). -/
def State.config (s : State) (n : Fin 4) : Nat := s.par (42 + n.val)

/-- Head type of channel n: bit 0. -/
def State.head (s : State) (n : Fin 4) : HeadType := if (s.config n).testBit 0 then .wide else .narrow

/-- Roof end of channel n: bit 1. -/
def State.roofEnd (s : State) (n : Fin 4) : RoofEnd := if (s.config n).testBit 1 then .b else .a

/-- Code of a supply system (10.9). -/
def System.code : System → Nat
  | .ac25 => 0 | .ac15 => 1 | .dc3 => 2 | .dc15 => 3

/-- Whether the allowed set of channel n, bits 8 to 11, holds a system. -/
def State.allows (s : State) (n : Fin 4) (x : System) : Bool := (s.config n).testBit (8 + x.code)

/-- Whether a head fit admits a head type (R64, R118). -/
def HeadFit.admits : HeadFit → HeadType → Bool
  | .any, _ => true
  | .narrow, .narrow => true
  | .wide, .wide => true
  | _, _ => false

/-- The leading end (R61): A in the quadrature forward direction, B otherwise. -/
def State.leadingEnd (s : State) : RoofEnd :=
  match s.pos.dir, s.pos.sense with
  | .ascending, .plus => .a
  | .descending, .minus => .a
  | _, _ => .b

/-- Whether channel n is a leading channel (R61). -/
def State.leads (s : State) (n : Fin 4) : Bool := decide (s.roofEnd n = s.leadingEnd)

/-- The CURRENT record, none while it is unknown (2.4). -/
def State.currentRec (s : State) : Option SectionRec := s.rmap.current.hit.map (·.record)

/-- A channel whose valve is driven (4.3). -/
def ChState.raised : ChState → Bool
  | .stroking => true
  | .rising => true
  | .up => true
  | _ => false

/-- DOWN or ISOLATED. -/
def ChState.stowed : ChState → Bool
  | .down => true
  | .isolated => true
  | _ => false

/-- The level of the VALVE n output (4.3). -/
def State.valve (s : State) (n : Fin 4) : Bool := (s.ch n).state.raised

/-- A stage from OPENING to CLOSING. -/
def Stage.running : Stage → Bool
  | .opening | .lowering | .switching | .waiting | .raising | .proving | .closing => true
  | _ => false

/-- The link role, parameter P40 (R164). -/
def State.linkRole (s : State) : LinkRole :=
  match s.par 40 with
  | 1 => .senior
  | 2 => .junior
  | _ => .alone

/-- The link is JUNIOR and in a state other than DETACHED: the peer condition of a collector's raise (R64). -/
def State.fedByLine (s : State) : Bool := decide (s.linkRole = .junior) && decide (s.rll.state ≠ .detached)

/-- The channel holding a role, the lowest-numbered if a state had several (R62 allows one). -/
def State.holder (s : State) (r : Role) : Option (Fin 4) := channels.find? fun n => decide ((s.ch n).role = r)

/-! ## Handing on -/

/-- Hands changes on to the other blocks. -/
def emit (gs : List Signal) (s : State) : State := s.withWork (s.work ++ gs)

/-! ## Bytes -/

/-- One byte. -/
def be1 (n : Nat) : List Byte := [BitVec.ofNat 8 n]

/-- Two bytes, most significant first (10.9). -/
def be2 (n : Nat) : List Byte := [BitVec.ofNat 8 (n / 256), BitVec.ofNat 8 n]

/-- Four bytes, most significant first. -/
def be4 (n : Nat) : List Byte :=
  [BitVec.ofNat 8 (n / 16777216), BitVec.ofNat 8 (n / 65536), BitVec.ofNat 8 (n / 256), BitVec.ofNat 8 n]

/-- A signed two-byte field. -/
def be2i (n : Int) : List Byte := be2 (BitVec.ofInt 16 n).toNat

/-- A signed four-byte field. -/
def be4i (n : Int) : List Byte := be4 (BitVec.ofInt 32 n).toNat

/-- A flag as a number. -/
def bit (b : Bool) : Nat := if b then 1 else 0

/-! ## Codes (10.9) -/

def LineState.code : LineState → Nat
  | .sys x => x.code | .dead => 4 | .over => 5 | .unknown => 6

def WinResult.code : WinResult → Nat
  | .sys x => x.code | .dead => 4 | .over => 5 | .uncertain => 6

/-- A system or NONE, 0xFF. -/
def sysCode : Option System → Nat
  | some x => x.code | none => 0xFF

def Stretch.kindCode : Stretch → Nat
  | .openLine _ => 0 | .phaseGap _ => 1 | .systemGap _ => 2 | .lowerZone _ => 3

def HeadFit.code : HeadFit → Nat
  | .narrow => 0 | .wide => 1 | .any => 2

def ChState.code : ChState → Nat
  | .isolated => 0 | .down => 1 | .stroking => 2 | .rising => 3 | .up => 4 | .falling => 5 | .stuck => 6

def Role.code : Role → Nat
  | .none => 0 | .collector => 1 | .scraper => 2

def Cause.code : Cause → Nat
  | .command => 0 | .zone => 1 | .riseTimeout => 2 | .contactLost => 3 | .strip => 4 | .emerg => 5 | .uncommanded => 6
  | .breakerFail => 7 | .earth => 8 | .reset => 9 | .powerOn => 10 | .raise => 11

def Stage.code : Stage → Nat
  | .idle => 0 | .armed => 1 | .opening => 2 | .lowering => 3 | .switching => 4 | .waiting => 5 | .raising => 6
  | .proving => 7 | .closing => 8 | .failed => 9

def holdCode : Option Hold → Nat
  | none => 0 | some .emerg => 1 | some .act => 2 | some .guard => 3 | some .earth => 4 | some .air => 5 | some .peer => 6
  | some .ice => 7 | some .nochan => 8 | some .pos => 9 | some .line => 10

def FailReason.code : FailReason → Nat
  | .timeoutLower => 0 | .timeoutRaise => 1 | .timeoutProve => 2 | .actuator => 3 | .strip => 4 | .emerg => 5
  | .reversed => 6 | .standby => 7 | .abort => 8 | .peer => 9 | .nochan => 10

def placeCode : Place → Nat
  | .opened => 0 | .closed => 1

def Confirmed.code : Confirmed → Nat
  | .opened => 0 | .closed => 1 | .unsure => 2

def Motion.code : Motion → Nat
  | .none => 0 | .settling => 1 | .travel => 2

def FaultKind.code : FaultKind → Nat
  | .noMatch => 0 | .timeout => 1 | .uncommanded => 2

def LinkRole.code : LinkRole → Nat
  | .alone => 0 | .senior => 1 | .junior => 2

def LinkState.code : LinkState → Nat
  | .detached => 0 | .asking => 1 | .coupling => 2 | .coupled => 3 | .uncoupling => 4 | .holding => 0 | .granting => 1
  | .withheld => 2

def Origin.code : Origin → Nat
  | .route => 0 | .manual => 1

def Dir.code : Dir → Nat
  | .ascending => 0 | .descending => 1

def Sense.code : Sense → Nat
  | .plus => 0 | .minus => 1

def CmdOutcome.code : CmdOutcome → Nat
  | .done => 0x00 | .accepted => 0x01 | .clamped => 0x02 | .unknown => 0x10 | .length => 0x11 | .range => 0x12
  | .mode => 0x13 | .busy => 0x14 | .interlock => 0x15 | .full => 0x16 | .stale => 0x17 | .align => 0x18 | .kind => 0x19
  | .fault => 0x1A

/-- A channel or none, 0xFF. -/
def chanCode : Option (Fin 4) → Nat
  | some n => n.val | none => 0xFF

/-- A slot reference in one byte (10.9). -/
def slotRefCode : Option SlotRef → Nat
  | none => 0xFF
  | some (.span k t) => k % 64 + (if t then 64 else 0)
  | some (.zone k) => 128 + k % 64

/-- The reason set in 16 bits (10.9). -/
def Reasons.code (r : Reasons) : Nat :=
  bit r.line + 2 * bit r.gap + 4 * bit r.seq + 8 * bit r.seqfail + 16 * bit r.emerg + 32 * bit r.drop + 64 * bit r.earth +
  128 * bit r.selftrip + 256 * bit r.hold + 512 * bit r.stby + 1024 * bit r.peer + 2048 * bit r.weld

/-- An actuator's byte in the status record (10.9). -/
def actByte (r : ActRec) (armed : Bool) : Nat :=
  placeCode r.commanded + 2 * r.confirmed.code + 8 * r.motion.code + 32 * bit r.fault + 64 * bit r.pending.isSome + 128 * bit armed

/-- The grant set in bits 0 to 5. -/
def grantBits (g : List (Fin 6)) : Nat := (heaters.filter fun h => g.contains h).foldl (fun n h => n + 2 ^ h.val) 0

/-- The 15 bytes of a section record; absent fields are sent as 0 (10.9). -/
def SectionRec.bytes (r : SectionRec) : List Byte :=
  let front (supply : Nat) := be1 r.stretch.kindCode ++ be1 supply ++ be1 r.fit.code ++ be1 (bit r.ice)
  match r.stretch with
  | .openLine x => front x.code ++ List.replicate 11 0
  | .lowerZone x => front x.code ++ List.replicate 11 0
  | .phaseGap g => front 0 ++ be4 g.lo ++ be4 g.hi ++ be1 g.supplyLo.code ++ be1 g.supplyHi.code ++ be1 (bit g.lowerInGap)
  | .systemGap g => front 0 ++ be4 g.lo ++ be4 g.hi ++ be1 g.supplyLo.code ++ be1 g.supplyHi.code ++ be1 (bit g.lowerInGap)

/-! ## Events (chapter 9) -/

/-- The number of an event (9.1). -/
def Event.num : Event → Fin 24
  | .fixCapture .. => 0 | .dirChange .. => 1 | .odoRange .. => 2 | .odoGlitch .. => 3 | .sectionChange .. => 4
  | .missHere .. => 5 | .missAhead .. => 6 | .entryFault .. => 7 | .lineChange .. => 8 | .chState .. => 9 | .drop .. => 10
  | .iceSuspect .. => 11 | .mbChange .. => 12 | .actFault .. => 13 | .weld .. => 14 | .selfTrip .. => 15 | .coArmed .. => 16
  | .coStage .. => 17 | .coDone .. => 18 | .coFail .. => 19 | .heatChange .. => 20 | .scrapeChange .. => 21
  | .peerChange .. => 22 | .peerConflict .. => 23

/-- The carried fields of a notice after its flags byte (10.9, Notice payloads). -/
def Event.bytes : Event → List Byte
  | .fixCapture q m => be1 q ++ be4 m
  | .dirChange d m => be1 d.code ++ be4 m
  | .odoRange m u => be4 m ++ be1 (bit u)
  | .odoGlitch m => be4 m
  | .sectionChange m r =>
      be4 m ++ be1 r.stretch.kindCode ++
      (match r.stretch with
       | .openLine x => be1 x.code ++ be1 x.code
       | .lowerZone x => be1 x.code ++ be1 x.code
       | .phaseGap g => be1 g.supplyLo.code ++ be1 g.supplyHi.code
       | .systemGap g => be1 g.supplyLo.code ++ be1 g.supplyHi.code)
  | .missHere m => be4 m
  | .missAhead p f => be4i p ++ be1 (bit f)
  | .entryFault (.span k _) => be1 0 ++ be1 k
  | .entryFault (.zone k) => be1 1 ++ be1 k
  | .lineChange p n w =>
      be1 p.code ++ be1 n.code ++ be1 w.result.code ++ be2i w.mean ++ be2 w.rac ++ be2 w.z ++ be2 w.c ++ be1 (bit w.missing)
  | .chState n st r c => be1 n.val ++ be1 st.code ++ be1 r.code ++ be1 c.code
  | .drop n c p m => be1 n.val ++ be1 c.code ++ be1 p.code ++ be4 m
  | .iceSuspect n f k => be1 n.val ++ be1 (bit f) ++ be1 k
  | .mbChange r a rs => be1 (actByte r a) ++ be2 rs.code
  | .actFault a k c f => be1 (actNo a).val ++ be1 k.code ++ be1 (placeCode c) ++ be1 (placeCode f)
  | .weld a d => be1 (placeCode a) ++ be1 (placeCode d)
  | .selfTrip m l rs => be4 m ++ be1 l.code ++ be2 rs.code
  | .coArmed o src t g e =>
      be1 o.code ++ be1 (sysCode src) ++ be1 t.code ++ be1 (chanCode g) ++ (match e with | some x => be4 x | none => be4 0xFFFFFFFF)
  | .coStage st h t g m => be1 st.code ++ be1 (holdCode h) ++ be1 (sysCode t) ++ be1 (chanCode g) ++ be4 m
  | .coDone o t m => be1 o.code ++ be1 t.code ++ be4 m
  | .coFail r st m => be1 r.code ++ be1 st.code ++ be4 m
  | .heatChange g b k => be1 (grantBits g) ++ be1 b ++ be1 k
  | .scrapeChange p n m => be1 (chanCode p) ++ be1 (chanCode n) ++ be4 m
  | .peerChange r st rq gt cpl c => be1 r.code ++ be1 st.code ++ be1 (bit rq + 2 * bit gt + 4 * bit cpl) ++ be1 (bit c)
  | .peerConflict r g st => be1 r.code ++ be1 (bit g) ++ be1 st.code

/-- The frame of a notice: kind 0x80 plus the event number, tag 0, flags first (R184, R192). -/
def noticeFrame (lost : Bool) (n : Notice) : TxFrame :=
  { kind := BitVec.ofNat 8 (0x80 + n.event.num.val)
    tag := 0
    payload := be1 (bit lost + 2 * bit n.coalesced) ++ n.event.bytes }

/-- R183: the newest queued notice with the event number of `n` replaced by `n` with its coalesced mark set, or none when
there is none. -/
def replaceNewest (n : Notice) : List Notice → Option (List Notice)
  | [] => none
  | x :: rest =>
    match replaceNewest n rest with
    | some rest' => some (x :: rest')
    | none => if x.event.num = n.event.num then some ({ n with coalesced := true } :: rest) else none

/-- R182, R183: a notice joins the queue, replaces an earlier one, or is dropped. -/
def Evr.enqueue (v : Evr) (n : Notice) : Evr :=
  if v.queue.length < queuePlaces then { v with queue := v.queue ++ [n] }
  else
    match replaceNewest n v.queue with
    | some q => { v with queue := q }
    | none => { v with lost := true }

/-- R184: the oldest notice is handed to the transmitter, which begins to send it. -/
def handOver (s : State) : State :=
  match s.evr.queue with
  | [] => s
  | n :: rest =>
    (s.withEvr { s.evr with queue := rest, lost := false }).withVlp
      { s.vlp with tx := some (noticeFrame s.evr.lost n), txElapsed := 0 }

/-- R179, R180: what a line does with an event routed to it. -/
def SignalLine.routed (l : SignalLine) (num : Nat) : SignalLine :=
  if l.latch then (if l.active then l else { l with active := true, first := some num })
  else { l with active := true, timer := some (ms l.length) }

/-- R177: the lines named in the mask act on the event. -/
def Evr.actLines (v : Evr) (mask : BitVec 3) (num : Nat) : Evr :=
  let go (i : Fin 3) : SignalLine := if mask.getLsbD i.val then (v.lines.get i).routed num else v.lines.get i
  { v with lines := #v[go 0, go 1, go 2] }

/-- R177, R192: an event is routed; a notice that finds the transmitter IDLE and no command being carried out is handed
over at once. -/
def raise (e : Event) (s : State) : State :=
  let r := s.evr.routes.get e.num
  let s1 := if r.notify then s.withEvr (s.evr.enqueue { event := e, coalesced := false }) else s
  let s2 := if s1.vlp.tx.isNone && !s1.vlp.carrying && !s1.vlp.resetPending then handOver s1 else s1
  s2.withEvr (s2.evr.actLines r.mask e.num.val)

/-! ## Answers (10.2, 10.3) -/

/-- An answer: the outcome with its answer fields, or a refusal with its detail (R191). -/
inductive Answer where
  | ok (o : CmdOutcome) (fields : List Byte)
  | refused (o : CmdOutcome) (detail : Nat)
  deriving DecidableEq, Repr

/-- The payload of an answer frame (R191). -/
def Answer.payload : Answer → List Byte
  | .ok o fields => be1 o.code ++ fields
  | .refused o detail => be1 o.code ++ be2 detail

/-- The answer frame of a command of kind `kind` and tag `tag` (R191). -/
def answerFrame (kind tag : Byte) (a : Answer) : TxFrame := { kind := kind + 0x40, tag := tag, payload := a.payload }

/-- R192: the transmitter, not sending, chooses the next frame: an answer in hand, else the oldest notice, else none. -/
def chooseNext (s : State) : State :=
  match s.vlp.inHand with
  | f :: rest => s.withVlp { s.vlp with tx := some f, txElapsed := 0, inHand := rest }
  | [] => handOver (s.withVlp { s.vlp with tx := none, txElapsed := 0 })

/-- R190: the answer of the command being carried out is made in hand; an IDLE transmitter sends it at once (R192). -/
def makeAnswer (kind tag : Byte) (a : Answer) (s : State) : State :=
  let s1 := s.withVlp { s.vlp with carrying := false, inHand := s.vlp.inHand ++ [answerFrame kind tag a] }
  if s1.vlp.tx.isNone then chooseNext s1 else s1

/-- DONE with no answer field. -/
def Answer.done : Answer := .ok .done []

/-- ACCEPTED with no answer field. -/
def Answer.accepted : Answer := .ok .accepted []

end Sys2Proof.Machine
end

