-- ==== Sys2Proof/Machine/Flags.lean ====
section
/-! DEFINITION. What the manual derives from the state at every moment: the selected system (R101), the condition reasons
(R108), the hold set (R133), the heating budget (R144) and the grant set (R147). -/

namespace Sys2Proof.Machine

open Config

/-! ## Selected system -/

/-- R101: the selected system, from the confirmed positions of KA, TA, KD and TD. -/
def State.selectedNow (s : State) : Option System :=
  if (s.act .ka).confirmed = .closed ∧ (s.act .kd).confirmed ≠ .closed then
    match (s.act .ta).confirmed with
    | .opened => some .ac25
    | .closed => some .ac15
    | .unsure => none
  else if (s.act .ka).confirmed ≠ .closed ∧ (s.act .kd).confirmed = .closed then
    match (s.act .td).confirmed with
    | .opened => some .dc3
    | .closed => some .dc15
    | .unsure => none
  else none

/-! ## Reasons -/

/-- R108: whether M lies within the window of a gap, d_open before its approach edge to d_clear past its far edge. -/
def inWindow (s : State) (g : GapPart) : Bool :=
  match s.pos.dir with
  | .ascending => decide (g.lo ≤ s.pos.m + s.par 3) && decide (s.pos.m ≤ g.hi + s.par 4)
  | .descending => decide (g.lo ≤ s.pos.m + s.par 4) && decide (s.pos.m ≤ g.hi + s.par 3)

/-- R108, reason GAP: a phase gap of the watch list or the CURRENT record has M in its window. -/
def gapReason (s : State) : Bool :=
  (s.rmap.watch.any fun w => !w.system && inWindow s w.gap) ||
  (match s.currentRec with
   | some { stretch := .phaseGap g, .. } => inWindow s g
   | _ => false)

/-- R108, reason DROP: absent in two cases only, and in neither while RC or an isolator is faulted. -/
def dropReason (s : State) : Bool :=
  let closedIso := channels.filter fun n => decide ((s.act (isoOf n)).confirmed = .closed)
  let faulted := (s.act .rc).fault || isolators.any fun a => (s.act a).fault
  let rcClosed := decide ((s.act .rc).confirmed = .closed)
  let own :=
    match closedIso with
    | [n] => decide ((s.ch n).state = .up) && decide ((s.ch n).role = .collector) && !rcClosed
    | _ => false
  let coupled := rcClosed && closedIso.isEmpty
  faulted || !(own || coupled)

/-- 5.8, reason SEQ: OPENING, LOWERING, SWITCHING, WAITING, RAISING or PROVING. -/
def Stage.holdsBreaker : Stage → Bool
  | .opening | .lowering | .switching | .waiting | .raising | .proving => true
  | _ => false

/-- 5.8: the condition reasons as their conditions stand; the latched ones as they were. -/
def condReasons (s : State) (r : Reasons) : Reasons :=
  { r with
    line := !(match s.sgd.selected with
              | some x => decide (s.lcl.line = .sys x)
              | none => false)
    gap := gapReason s
    seq := s.csq.stage.holdsBreaker
    emerg := s.inp.emerg
    drop := dropReason s
    earth := decide ((s.act .es).confirmed ≠ .opened)
    stby := decide (s.mode = .standby)
    peer := decide (s.rll.state = .uncoupling) }

/-- The set holds no reason. -/
def Reasons.empty (r : Reasons) : Bool :=
  !(r.line || r.gap || r.seq || r.seqfail || r.emerg || r.drop || r.earth || r.selftrip || r.hold || r.stby || r.peer || r.weld)

/-- A reason of `r` that `old` has not. -/
def Reasons.joined (r old : Reasons) : Bool :=
  (r.line && !old.line) || (r.gap && !old.gap) || (r.seq && !old.seq) || (r.seqfail && !old.seqfail) ||
  (r.emerg && !old.emerg) || (r.drop && !old.drop) || (r.earth && !old.earth) || (r.selftrip && !old.selftrip) ||
  (r.hold && !old.hold) || (r.stby && !old.stby) || (r.peer && !old.peer) || (r.weld && !old.weld)

/-- A latched reason of `r` that `old` has not (R109). -/
def Reasons.latchedJoined (r old : Reasons) : Bool :=
  (r.seqfail && !old.seqfail) || (r.selftrip && !old.selftrip) || (r.hold && !old.hold) || (r.weld && !old.weld)

/-! ## Holds -/

/-- R122: a route plan's opening distance is met; a manual plan meets it at once. -/
def openingMet (s : State) (p : Plan) : Bool :=
  match p.route with
  | none => true
  | some r =>
    match r.dir with
    | .ascending => decide (r.approach ≤ s.pos.m + s.par 3)
    | .descending => decide (s.pos.m ≤ r.approach + s.par 3)

/-- The switch of a path: TA of the AC path, TD of the DC path (5.5). -/
def switchOf : Path → Actuator
  | .ac => .ta
  | .dc => .td

/-- The contactor of a path. -/
def contactorOf : Path → Actuator
  | .ac => .ka
  | .dc => .kd

/-- The other path. -/
def otherPath : Path → Path
  | .ac => .dc
  | .dc => .ac

/-- The path of a system. -/
def System.path : System → Path
  | .ac25 => .ac
  | .ac15 => .ac
  | .dc3 => .dc
  | .dc15 => .dc

/-- The position of its path's switch that a system needs: T25, D3 are OPEN, T15, D15 are CLOSED (5.1). -/
def System.tap : System → Place
  | .ac25 => .opened
  | .ac15 => .closed
  | .dc3 => .opened
  | .dc15 => .closed

/-- R133: whether a hold is present, by the stage in course. -/
def State.holdPresent (s : State) (h : Hold) : Bool :=
  let moving (a : Actuator) : Bool := decide ((s.act a).motion ≠ .none)
  match s.csq.stage, s.csq.plan with
  | .idle, _ => decide (h = .pos) && s.rmap.short && decide (s.mode = .run)
  | .armed, some p =>
    (match h with
     | .emerg => s.inp.emerg
     | .earth => decide ((s.act .es).confirmed ≠ .opened)
     | .air => !s.inp.airok
     | .nochan => p.tgt.isNone && !p.fed
     | .pos => !openingMet s p
     | _ => false)
  | .opening, _ => decide (h = .act) && moving .mb
  | .lowering, _ => decide (h = .peer) && s.csq.timer.isSome
  | .switching, _ =>
    (match h, s.csq.switchWait with
     | .act, .busy => true
     | .act, .interlock => true
     | .act, .running => (match s.sgd.proc with | some p => p.commanded.any moving | none => false)
     | .guard, .running => (match s.sgd.proc with | some p => decide (p.step = .guard) | none => false)
     | _, _ => false)
  | .waiting, _ => decide (h = .pos)
  | .raising, some p =>
    (match h, s.csq.retry with
     | .air, some .air => true
     | .earth, some .earth => true
     | .pos, some .zone => true
     | .nochan, some .collector => true
     | .peer, some .peer => true
     | .ice, _ => (match p.tgt with | some t => decide ((s.ch t).state = .stroking) | none => false)
     | .act, _ =>
       (match p.tgt with
        | some t =>
          decide ((s.ch t).state = .up) &&
          (moving (isoOf t) || (s.act (isoOf t)).pending.isSome || decide (s.sgd.isoWait = some t))
        | none => false)
     | _, _ => false)
  | .proving, some p =>
    (match h with
     | .line => s.csq.timer.isSome
     | .peer => p.fed && s.csq.timer.isNone
     | _ => false)
  | .closing, _ =>
    decide (h = .act) &&
    ((moving .mb && decide ((s.act .mb).commanded = .closed)) ||
     (match (s.act .mb).pending with | some (.closed, _) => true | _ => false))
  | _, _ => false

/-- The holds in the order of 6.4, highest first. -/
def holdOrder : List Hold := [.emerg, .act, .guard, .earth, .air, .peer, .ice, .nochan, .pos, .line]

/-- The hold set of the plan (R133). -/
def State.holdSet (s : State) : List Hold := holdOrder.filter s.holdPresent

/-- The highest hold present, or none (R133). -/
def State.highestHold (s : State) : Option Hold := s.holdSet.head?

/-! ## Heating -/

/-- The rating of a heater, P31 to P36. -/
def State.rating (s : State) (h : Fin 6) : Nat := s.par (31 + h.val)

/-- R144: the budget as MB and the line state give it. -/
def State.budgetNow (s : State) : Nat :=
  match s.lcl.line with
  | .sys x => if (s.act .mb).commanded = .closed ∧ (s.act .mb).confirmed = .closed then s.par (27 + x.code) else 0
  | _ => 0

/-- R147: the heaters with an entry, in the order of the first entry of each. -/
def heaterOrder : List HeatEntry → List (Fin 6) → List (Fin 6)
  | [], _ => []
  | e :: rest, seen => if seen.contains e.heater then heaterOrder rest seen else e.heater :: heaterOrder rest (e.heater :: seen)

/-- R147: the walk that grants each heater whose rating fits what is left of the budget. -/
def grantWalk (rating : Fin 6 → Nat) (budget : Nat) : List (Fin 6) → Nat → List (Fin 6)
  | [], _ => []
  | h :: rest, sum =>
    if sum + rating h ≤ budget then h :: grantWalk rating budget rest (sum + rating h)
    else grantWalk rating budget rest sum

/-- R147: the new grant set, in heater order. -/
def admission (rating : Fin 6 → Nat) (budget : Nat) (l : List HeatEntry) : List (Fin 6) :=
  let w := grantWalk rating budget (heaterOrder l []) 0
  heaters.filter fun h => w.contains h

/-- The summed rating of a grant set. -/
def State.ratingSum (s : State) (g : List (Fin 6)) : Nat := (g.map s.rating).sum

/-- The heater has an entry. -/
def demanded (l : List HeatEntry) (h : Fin 6) : Bool := l.any fun e => decide (e.heater = h)

/-- R148: the second progress under the grant set `g`. A heater with no entry has it at 0. A heater that is not granted keeps
it where it stood, and one whose grant falls as its second completes stops short of the second, by one tick (log entry
38). -/
def keptProgress (g : List (Fin 6)) (l : List HeatEntry) (p : Vector Nat 6) : Vector Nat 6 :=
  let go (h : Fin 6) : Nat :=
    if demanded l h then (if g.contains h then p.get h else min (p.get h) (sec 1 - 1)) else 0
  #v[go 0, go 1, go 2, go 3, go 4, go 5]

end Sys2Proof.Machine
end

