-- ==== Sys2Proof/Machine/Drive.lean ====
section
/-! DEFINITION. The Switchgear Drive's shared operations (5.2 to 5.9): commanding an actuator and confirming it, faults,
requests, the reason set with the breaker's opening and closing; and the refresh that brings the selected system, the
condition reasons, the budget and the grants up to date after a change. -/

namespace Sys2Proof.Machine

open Config

/-! ## Confirmed positions, motions, faults -/

/-- The settle count of the actuator's class as it stands: P09, P10 or P11 (5.1). -/
def State.settleCount (s : State) : Actuator → Nat
  | .mb => s.par 9
  | .ka | .kd | .rc => s.par 10
  | _ => s.par 11

/-- R99: a path contactor whose confirmed position becomes OPEN starts its guard timer with P12. -/
def startGuard (a : Actuator) (s : State) : State :=
  match a with
  | .ka => s.withSgd { s.sgd with guardKa := some (units20 (s.par 12)) }
  | .kd => s.withSgd { s.sgd with guardKd := some (units20 (s.par 12)) }
  | _ => s

/-- R89: a change of an actuator's confirmed position is handed on; one of MB raises MB_CHANGE. -/
def setConfirmed (a : Actuator) (c : Confirmed) (s : State) : State :=
  let r := s.act a
  if r.confirmed = c then s
  else
    let s1 := s.setAct a { r with confirmed := c }
    let s2 := if c = .opened then startGuard a s1 else s1
    let s3 := if a = .mb then raise (.mbChange (s2.act .mb) s2.sgd.armed s2.sgd.reasons) s2 else s2
    emit [.actConfirmed a r.confirmed] s3

/-- R90, R91: the motion in course ends with the commanded position confirmed; a confirmed close of MB sets reclose-armed
(R113), and a pending request is issued (R94). -/
def confirmMotion (a : Actuator) (s : State) : State :=
  let r := s.act a
  let s1 := s.setAct a { r with motion := .none }
  let s2 := if a = .mb ∧ r.commanded = .closed then s1.withSgd { s1.sgd with armed := true } else s1
  let s3 := setConfirmed a (confirmedAt r.commanded) s2
  if r.pending.isSome then emit [.issuePending a] s3 else s3

/-- R89, R91: the commanded position changes and a motion starts; with a settle count of 0 a feedback that already shows
it confirms at once. -/
def command (a : Actuator) (p : Place) (s : State) : State :=
  let n := s.settleCount a
  let s1 := s.setAct a { s.act a with commanded := p, motion := .settling, elapsed := 0, settle := n }
  let s2 := emit [.actCommanded a] (setConfirmed a .unsure s1)
  if n = 0 ∧ s.fb a = p then confirmMotion a s2 else s2

/-- MB, KA, KD, RC and the isolators are commanded OPEN by a fault; TA, TD and ES keep their command (R92). -/
def fallsOut : Actuator → Bool
  | .ta | .td | .es => false
  | _ => true

/-- R92, R96: an actuator faults. A fault of MB commanded OPEN is a failure to open and is reported to the channels. -/
def faultAct (a : Actuator) (k : FaultKind) (s : State) : State :=
  let r := s.act a
  let failsToOpen : Bool := decide (a = .mb) && decide (r.commanded = .opened)
  let s1 := s.setAct a
    { r with fault := true, motion := .none, pending := none, commanded := if fallsOut a then .opened else r.commanded }
  let s2 := setConfirmed a .unsure s1
  let s3 := raise (.actFault a k r.commanded (s.fb a)) s2
  let s4 := emit [.actFaulted a, .actCommanded a] s3
  if failsToOpen then emit [.breakerFail] s4 else s4

/-! ## Requests (5.3) -/

/-- What became of a request. -/
inductive ReqOut where
  | fault | interlock | absorbed | held | commanded
  deriving DecidableEq, Repr

/-- The guard timer of a path's contactor is running. -/
def State.guarded (s : State) : Path → Bool
  | .ac => s.sgd.guardKa.isSome
  | .dc => s.sgd.guardKd.isSome

/-- R99, R100: when a path's contactor may be commanded CLOSED. That the other contactor is commanded OPEN is R99's "never
both commanded closed" (log entry 12). -/
def closePermit (p : Path) (s : State) : Bool :=
  decide ((s.act (contactorOf (otherPath p))).confirmed = .opened) &&
  decide ((s.act (contactorOf (otherPath p))).commanded = .opened) && !s.guarded (otherPath p) &&
  decide ((s.act (switchOf p)).confirmed ≠ .unsure) && decide ((s.act (switchOf p)).motion = .none)

/-- Another isolator than channel n's is commanded CLOSED (R106). -/
def otherIsoClosed (s : State) (n : Fin 4) : Bool :=
  channels.any fun k => decide (k ≠ n) && decide ((s.act (isoOf k)).commanded = .closed)

/-- The interlocks of an actuator for a position (R99, R100, R105, R106, R107). -/
def interlockOk (a : Actuator) (p : Place) (s : State) : Bool :=
  match a, p with
  | .mb, .closed => s.sgd.reasons.empty
  | .ka, .closed => closePermit .ac s
  | .kd, .closed => closePermit .dc s
  | .ta, _ => decide ((s.act .ka).confirmed = .opened)
  | .td, _ => decide ((s.act .kd).confirmed = .opened)
  | .es, .closed => decide ((s.act .mb).confirmed = .opened) && channels.all fun n => (s.ch n).state.stowed
  | .rc, .closed => (isolators.all fun i => decide ((s.act i).commanded ≠ .closed)) && s.sgd.isoWait.isNone
  | _, .opened => true
  | i, .closed =>
    match chanOfIso i with
    | some n => decide ((s.ch n).state = .up) && decide ((s.ch n).role = .collector) && !otherIsoClosed s n
    | none => true

/-- The pending request of an actuator replaced. A requester whose request is replaced or discarded so is told that it was
superseded (R94); no block acts on being told, since the rules give it nothing to do (log entry 33). -/
def setPending (a : Actuator) (q : Option (Place × Requester)) (s : State) : State :=
  s.setAct a { s.act a with pending := q }

/-- R94, R95: a request for a position. -/
def request (a : Actuator) (p : Place) (by_ : Requester) (s : State) : State × ReqOut :=
  let r := s.act a
  if r.fault then (s, .fault)
  else if !interlockOk a p s then (s, .interlock)
  else if r.commanded = p then (setPending a none s, .absorbed)
  else if r.motion = .none ∨ (a = .mb ∧ p = .opened) then (command a p (setPending a none s), .commanded)
  else (setPending a (some (p, by_)) s, .held)

/-- R94: the pending request of an actuator whose motion has ended is issued, or discarded with INTERLOCK. DESIGN CHOICE (log 51):
a close of RC that was held pending in COUPLING is issued also once the link has left it. -/
def issuePending (a : Actuator) (s : State) : State :=
  match (s.act a).pending with
  | none => s
  | some (p, _) =>
    let s1 := setPending a none s
    if (s1.act a).fault ∨ (s1.act a).motion ≠ .none then s
    else if (s1.act a).commanded = p then s1
    else if interlockOk a p s1 then command a p s1
    else emit [.procRun, .sequencerRun, .linkRun] s1

/-! ## The breaker (5.8, 5.9) -/

/-- What became of a request to close MB (R110). -/
inductive CloseOut where
  | interlock | fault | done | inCourse | held | commanded
  deriving DecidableEq, Repr

/-- R110: a request to close MB, by BRKC, by auto reclose or by the sequencer. -/
def closeMb (by_ : Requester) (s : State) : State × CloseOut :=
  let r := s.act .mb
  if !s.sgd.reasons.empty then (s, .interlock)
  else if r.fault then (s, .fault)
  else if r.commanded = .closed then (s, if r.confirmed = .closed then .done else .inCourse)
  else if r.motion ≠ .none then (setPending .mb (some (.closed, by_)) s, .held)
  else if r.confirmed = .opened then (command .mb .closed s, .commanded)
  else (s, .interlock)

/-- R109, R113: the reason set becomes `f` of itself. A reason that joins opens MB, a latched one also clears
reclose-armed, and an emptied set closes MB by auto reclose when that is armed and P38 is ON. -/
def updateReasons (f : Reasons → Reasons) (s : State) : State :=
  let old := s.sgd.reasons
  let new := f old
  if new = old then s
  else
    let s1 := s.withSgd { s.sgd with reasons := new, armed := s.sgd.armed && !new.latchedJoined old }
    let s2 := if new.joined old then (request .mb .opened .reasons s1).1 else s1
    let s3 := if new.empty ∧ s2.sgd.armed = true ∧ s2.par 38 = 1 then (closeMb .reasons s2).1 else s2
    emit [.sequencerRun] s3

/-! ## Refresh -/

/-- R101: a change of the selected system is handed on. -/
def refreshSelected (s : State) : State :=
  if s.sgd.selected = s.selectedNow then s
  else emit [.selectedChanged] (s.withSgd { s.sgd with selected := s.selectedNow })

/-- R108: the condition reasons are recomputed. -/
def refreshReasons (s : State) : State := updateReasons (condReasons s) s

/-- R144, R147, R148: the budget and the grant set are recomputed; a changed grant set raises HEAT_CHANGE. -/
def refreshHeat (s : State) : State :=
  let b := s.budgetNow
  let g := admission s.rating b s.icu.list
  let s1 := s.withIcu { s.icu with budget := b, grant := g, progress := keptProgress g s.icu.list s.icu.progress }
  if g = s.icu.grant then s1 else raise (.heatChange g b (s.ratingSum g)) s1

/-- Brings what is derived from the state up to date after a change (R101, R108, R144, R147). -/
def refresh (s : State) : State := refreshHeat (refreshReasons (refreshSelected s))

end Sys2Proof.Machine
end

