-- ==== Sys2Proof/Machine/Pantograph.lean ====
section
/-! DEFINITION. The Pantograph Channels' shared operations (chapter 4): state changes, raising, falling, protective drops,
arcs and the force setpoint. -/

namespace Sys2Proof.Machine

open Config

/-! ## Force (4.9) -/

/-- The force table of a head type. -/
def State.ftab (s : State) : HeadType → Vector ForcePoint 8
  | .narrow => s.ftabs.narrow
  | .wide => s.ftabs.wide

/-- R84: the force at speed v on the stretch from p to q, the division truncated toward zero. -/
def interpolate (p q : ForcePoint) (v : Nat) : Int :=
  (p.force : Int) + Int.tdiv (((q.force : Int) - p.force) * ((v : Int) - 10 * p.speed)) (10 * q.speed - 10 * p.speed)

/-- R84: the force of the lowest stretch that holds v, or of the last point beyond the table. -/
def forceWalk (v : Nat) : ForcePoint → List ForcePoint → Int
  | p, [] => p.force
  | p, q :: rest => if v ≤ 10 * q.speed then interpolate p q v else forceWalk v q rest

/-- R84: the table force at speed v, in 0.1 km/h. -/
def tableForce (t : Vector ForcePoint 8) (v : Nat) : Int :=
  match t.toList with
  | [] => 0
  | p :: rest => if v < 10 * p.speed then p.force else forceWalk v p rest

/-- R84: the force setpoint of channel n in RISING or UP. -/
def State.forceSetpoint (s : State) (n : Fin 4) : Nat :=
  let f := tableForce (s.ftab (s.head n)) s.pos.speed
  let g := if (s.ch n).role = .scraper then f + s.par 18 else f
  (max (s.par 16 : Int) (min (s.par 17 : Int) g)).toNat

/-- R84: the setpoint of channel n is computed. -/
def setSetpoint (n : Fin 4) (s : State) : State := s.setCh n { s.ch n with setpoint := s.forceSetpoint n }

/-- R84: the setpoints of the channels in RISING and UP for which `p` holds are computed. -/
def recomputeSetpoints (p : Fin 4 → Bool) (s : State) : State :=
  channels.foldl
    (fun t n => if p n && (decide ((t.ch n).state = .rising) || decide ((t.ch n).state = .up)) then setSetpoint n t else t) s

/-! ## State changes -/

/-- R63: channel n becomes `c`; CH_STATE is raised with `cause` and the change is handed on. -/
def chEnter (n : Fin 4) (c : Channel) (cause : Cause) (s : State) : State :=
  let old := (s.ch n).state
  let s1 := raise (.chState n c.state c.role cause) (s.setCh n c)
  emit [.chChanged n old c.state] s1

/-- R68: entry into UP. -/
def enterUp (n : Fin 4) (s : State) : State :=
  let c := s.ch n
  chEnter n
    { c with state := .up, stroke := none, rise := none, contact := none, setpoint := s.forceSetpoint n } .raise s

/-- R68: entry into RISING; a CONTACT already asserted takes the channel to UP at once. -/
def enterRising (n : Fin 4) (s : State) : State :=
  let c := s.ch n
  let s1 := chEnter n
    { c with state := .rising, stroke := none, rise := some (sec (s.par 13)), setpoint := s.forceSetpoint n } .raise s
  if s.inp.contact.get n then enterUp n s1 else s1

/-- R67: the press of stroke `k` begins, with the force output at P26. -/
def pressStroke (k : Nat) (s : State) (c : Channel) : Channel :=
  { c with stroke := some { number := k, press := true, left := units100 (s.par 24) }, setpoint := s.par 26 }

/-- R64, R65, R66: an accepted raise gives the role and enters STROKING with frost mode on, RISING with it off. DESIGN
CHOICE (log 34): a CONTACT already asserted is not tested at entry into STROKING (R67 ends the strokes on a change). -/
def startRaise (n : Fin 4) (r : Role) (s : State) : State :=
  let c := { s.ch n with role := r }
  if s.icu.frost then chEnter n { pressStroke 1 s c with state := .stroking } .raise s
  else enterRising n (s.setCh n c)

/-- R73: entry into FALLING with its cause; the fall timer starts with P14. DESIGN CHOICE (log 34): a HOUSED already
asserted is not tested at entry; only a later HOUSED_ASSERT gives DOWN. -/
def startFall (n : Fin 4) (cause : Cause) (s : State) : State :=
  let c := s.ch n
  chEnter n
    { c with
      state := .falling, fallCause := some cause, fall := some (sec (s.par 14)), rise := none, stroke := none
      contact := none, setpoint := 0 } cause s

/-- R72: a lowering that finds the channel in STROKING, RISING or UP. -/
def lowerRaised (n : Fin 4) (cause : Cause) (s : State) : State :=
  if (s.ch n).state.raised then startFall n cause s else s

/-- R70, R73: channel n reaches DOWN: role none, ring emptied, ice-suspect flag cleared. DESIGN CHOICE (log 44): CH_STATE is
raised before ICE_SUSPECT, which carries count 0, that of the emptied ring. -/
def reachDown (n : Fin 4) (s : State) : State :=
  let c := s.ch n
  let s1 := chEnter n
    { c with state := .down, role := .none, fall := none, arcs := [], suspect := false } (c.fallCause.getD .command) s
  if c.suspect then emit [.suspectChanged n] (raise (.iceSuspect n false 0) s1) else s1

/-- R73: the fall timer of channel n expires and it enters STUCK. -/
def reachStuck (n : Fin 4) (s : State) : State :=
  let c := s.ch n
  chEnter n { c with state := .stuck, role := .none, fall := none } (c.fallCause.getD .command) s

/-! ## Protective drops (4.7) -/

/-- R79: the snapshot of a protective cause as the state stands when it is taken. -/
def State.snapshotOf (s : State) (n : Fin 4) (cause : Cause) : Snapshot :=
  let c := s.ch n
  { cause := cause, m := s.pos.m, speed := s.pos.speed, line := s.lcl.line, prior := c.state, role := c.role
    setpoint := c.setpoint, breaker := (s.act .mb).confirmed, stage := s.csq.stage, consumed := false
    overwrote := match c.snapshot with | some x => !x.consumed | none => false }

/-- R74: a protective cause on channel n sets its latch; with `fall` the channel goes to FALLING in the same change, with
`snap` it takes a snapshot and raises DROP. DEDUCED (log 42): CH_STATE is raised before DROP, where the worked tables
disagree. -/
def protect (n : Fin 4) (cause : Cause) (fall snap : Bool) (s : State) : State :=
  let x := s.snapshotOf n cause
  let s1 := if fall then startFall n cause s else s
  let c := s1.ch n
  let s2 := s1.setCh n { c with latch := some cause, snapshot := if snap then some x else c.snapshot }
  let s3 := if snap then raise (.drop n cause x.prior x.m) s2 else s2
  emit [.latchSet n] s3

/-- R72, R78: a protective cause that acts on a raised channel only. -/
def protectRaised (n : Fin 4) (cause : Cause) (s : State) : State :=
  if (s.ch n).state.raised then protect n cause true true s else s

/-- R75: a strip breach on channel n. -/
def stripBreach (n : Fin 4) (s : State) : State := protect n .strip (s.ch n).state.raised true s

/-- R76: EMERG on channel n: no snapshot for DOWN, STUCK and ISOLATED. -/
def emergLower (n : Fin 4) (s : State) : State :=
  protect n .emerg (s.ch n).state.raised ((s.ch n).state.raised || decide ((s.ch n).state = .falling)) s

/-- R78: the collector and the scraper fall with BREAKER_FAIL when they are raised, in channel order (DESIGN CHOICE, log
43). -/
def breakerFailLowering (s : State) : State :=
  channels.foldl (fun t n => if (s.ch n).role = .none then t else protectRaised n .breakerFail t) s

/-- R72: the earthing switch ceasing to be confirmed open lowers and latches every raised channel, in channel order (DESIGN
CHOICE, log 43). -/
def earthLowering (s : State) : State := channels.foldl (fun t n => protectRaised n .earth t) s

/-- R72: a CURRENT record becoming a lowering zone lowers every raised channel, in channel order (DESIGN CHOICE, log 43). -/
def zoneLowering (s : State) : State := channels.foldl (fun t n => lowerRaised n .zone t) s

/-! ## Arcs (4.5) -/

/-- R69: a new record joins the ring; a full ring loses its oldest. -/
def pushArc (a : Arc) (l : List Arc) : List Arc := (if l.length < arcPlaces then l else l.drop 1) ++ [a]

/-- R70: the records within the arc window of M. -/
def arcCount (window m : Nat) (l : List Arc) : Nat :=
  (l.filter fun a => decide ((m : Int) - a.m ≤ window) && decide ((a.m : Int) - m ≤ window)).length

/-- R70: an arc evaluation of channel n. -/
def arcEvaluate (n : Fin 4) (s : State) : State :=
  let c := s.ch n
  let k := arcCount (s.par 21) s.pos.m c.arcs
  let f := decide (s.par 22 ≤ k)
  if f = c.suspect then s
  else emit [.suspectChanged n] (raise (.iceSuspect n f k) (s.setCh n { c with suspect := f }))

/-- R70: the arc evaluation of every channel whose ring is not empty, at a 100 m mark, in channel order (DESIGN CHOICE, log
43). -/
def arcEvaluateAll (s : State) : State :=
  channels.foldl (fun t n => if (t.ch n).arcs.isEmpty then t else arcEvaluate n t) s

/-! ## Raise conditions (R64 to R66) -/

/-- R64, conditions 1 to 8: the first that refuses a raise of channel n as collector. -/
def collectorBar (n : Fin 4) (s : State) : Option RaiseBar :=
  if (s.ch n).latch.isSome then some .latched
  else if !s.inp.airok then some .air
  else if (s.act .es).confirmed ≠ .opened then some .earth
  else if s.inp.emerg then some .emerg
  else if !(match s.sgd.selected with | some x => s.allows n x | none => false) then some .system
  else if (match s.currentRec with
    | some r => (match r.stretch with | .lowerZone _ => true | _ => false) || !r.fit.admits (s.head n)
    | none => false) then some .zone
  else if channels.any (fun k => decide (k ≠ n) && decide ((s.ch k).role = .collector)) then some .collector
  else if s.fedByLine then some .peer
  else none

/-- The order number of a condition in the table of R64. -/
def RaiseBar.order : RaiseBar → Nat
  | .latched => 1 | .air => 2 | .earth => 3 | .emerg => 4 | .system => 5 | .zone => 6 | .collector => 7 | .peer => 8
  | .sequencer => 9 | .busy => 0

/-- R65: the sequencer's raise request for channel n: refused BUSY unless DOWN, then by conditions 1 to 8. -/
def sequencerBar (n : Fin 4) (s : State) : Option RaiseBar :=
  if (s.ch n).state ≠ .down then some .busy else collectorBar n s

/-- R66: whether the scraper raise of channel n is accepted. DESIGN CHOICE (log 45): its isolator is not tested, as R66 lists
no such condition, also while it is still commanded CLOSED with an open pending (R94, R106), where R62 has no scraper be the
channel of a closed isolator. -/
def scraperAccepted (n : Fin 4) (s : State) : Bool :=
  decide ((s.ch n).state = .down) && (s.ch n).latch.isNone && s.inp.airok && decide ((s.act .es).confirmed = .opened) &&
  !s.inp.emerg &&
  (match s.currentRec with
   | some r => !(match r.stretch with | .lowerZone _ => true | _ => false) && r.fit.admits (s.head n)
   | none => false) &&
  !(channels.any fun k => decide (k ≠ n) && decide ((s.ch k).role = .scraper))

/-! ## The Switchgear Drive's answer to a change of a channel's state (R106) -/

/-- R106: the isolator of channel n is requested CLOSED, or waits for the other isolator. -/
def isoClose (n : Fin 4) (s : State) : State :=
  if otherIsoClosed s n then s.withSgd { s.sgd with isoWait := some n }
  else
    match request (isoOf n) .closed .channel s with
    | (t, .fault) => emit [.sequencerRun] t
    | (t, _) => t

/-- R106: a channel entering UP as collector asks for its isolator; one leaving UP drops a waiting close and opens it. -/
def isoOnChannel (n : Fin 4) (previous new : ChState) (s : State) : State :=
  if new = .up ∧ (s.ch n).state = .up ∧ (s.ch n).role = .collector then isoClose n s
  else if previous = .up ∧ new ≠ .up then
    let s1 :=
      if s.sgd.isoWait = some n then emit [.linkRun, .sequencerRun] (s.withSgd { s.sgd with isoWait := none }) else s
    if (s1.act (isoOf n)).commanded = .closed then (request (isoOf n) .opened .channel s1).1 else s1
  else s

/-- R106: the waiting close is made when no isolator is commanded CLOSED any more. -/
def isoRelease (s : State) : State :=
  match s.sgd.isoWait with
  | none => s
  | some n =>
    if otherIsoClosed s n then s
    else emit [.linkRun, .sequencerRun] (isoClose n (s.withSgd { s.sgd with isoWait := none }))

end Sys2Proof.Machine
end

