-- ==== Sys2Proof/Machine/Ice.lean ====
section
/-! DEFINITION. The Ice Clearing Unit's shared operations (chapter 7): the heat list, the automatic demands and the
scraper. -/

namespace Sys2Proof.Machine

/-! ## Heat list (R145) -/

/-- R145: an entry takes the place after every entry of its priority. -/
def insertHeat (e : HeatEntry) : List HeatEntry → List HeatEntry
  | [] => [e]
  | x :: rest => if e.priority < x.priority then e :: x :: rest else x :: insertHeat e rest

/-- The list without the entry of a heater and origin. -/
def removeHeat (h : Fin 6) (o : HeatOrigin) (l : List HeatEntry) : List HeatEntry :=
  l.filter fun e => !(decide (e.heater = h) && decide (e.origin = o))

/-- R145: an entry is made, or renewed as the newest arrival of its priority. -/
def makeHeat (e : HeatEntry) (l : List HeatEntry) : List HeatEntry := insertHeat e (removeHeat e.heater e.origin l)

/-- The entry of a heater and origin. -/
def findHeat (h : Fin 6) (o : HeatOrigin) (l : List HeatEntry) : Option HeatEntry :=
  l.find? fun e => decide (e.heater = h) && decide (e.origin = o)

/-- R145, R147: a list change with the admission that follows it. -/
def setHeatList (l : List HeatEntry) (s : State) : State := refreshHeat (s.withIcu { s.icu with list := l })

/-- The head heater of channel n. -/
def headHeater (n : Fin 4) : Fin 6 := ⟨n.val, by omega⟩

/-- R149: the head demand condition of channel n. -/
def State.headCondition (s : State) (n : Fin 4) : Bool :=
  (decide ((s.ch n).state = .up) && (match s.currentRec with | some r => r.ice | none => false)) || (s.ch n).suspect

/-- The head demand of channel n replaced. -/
def setDemand (n : Fin 4) (b : Bool) (s : State) : State :=
  s.withIcu { s.icu with demand := s.icu.demand.set n.val b n.isLt }

/-- R149: the condition of channel n is tested; a rise makes or renews the AUTO entry of its head heater. -/
def headDemand (n : Fin 4) (s : State) : State :=
  let c := s.headCondition n
  if c = s.icu.demand.get n then s
  else
    let s1 := setDemand n c s
    if c then
      setHeatList (makeHeat { heater := headHeater n, origin := .auto, priority := 1, remaining := s.par 37 } s1.icu.list) s1
    else s1

/-- R150: channel n reached DOWN. -/
def headDown (n : Fin 4) (s : State) : State :=
  setHeatList (removeHeat (headHeater n) .auto s.icu.list) (setDemand n false s)

/-- R151: an insulator AUTO entry. -/
def insulatorEntry (h : Fin 6) : HeatEntry := { heater := h, origin := .auto, priority := 2, remaining := 3600 }

/-- H4 or H5. -/
def isInsulator (h : Fin 6) : Bool := decide (4 ≤ h.val)

/-- R148: every entry of heater h decreases by 1. -/
def countDown (h : Fin 6) (l : List HeatEntry) : List HeatEntry :=
  l.map fun e => if e.heater = h then { e with remaining := e.remaining - 1 } else e

/-- R148, R151: the list after a whole granted second of heater h: run-out entries leave, and while frost mode is on an
insulator AUTO entry that ran out is made again. -/
def heatSecond (frost : Bool) (h : Fin 6) (l : List HeatEntry) : List HeatEntry :=
  let c := countDown h l
  let kept := c.filter fun e => decide (e.remaining ≠ 0)
  let again := frost && isInsulator h &&
    c.any fun e => decide (e.heater = h) && decide (e.origin = .auto) && decide (e.remaining = 0)
  if again then insertHeat (insulatorEntry h) kept else kept

/-! ## Scraper (7.5) -/

/-- R154: a scraper is wanted. -/
def State.scraperWanted (s : State) : Bool :=
  ((match s.currentRec with | some r => r.ice | none => false) && s.icu.scrapeEnable) ||
  ((match s.holder .collector with | some n => (s.ch n).suspect | none => false) && decide (s.par 39 = 1))

/-- R155: the general conditions. -/
def State.scraperPossible (s : State) : Bool :=
  decide (s.par 19 ≤ s.pos.speed) && decide (s.pos.speed ≤ s.par 20) && decide (s.mode = .run) &&
  (decide (s.csq.stage = .idle) || decide (s.csq.stage = .armed)) &&
  (match s.currentRec with
   | some r => (match r.stretch with | .lowerZone _ => false | _ => true)
   | none => false) &&
  s.inp.airok && decide ((s.act .es).confirmed = .opened) && !s.icu.inhibit

/-- The CURRENT record's head fit admits the head of channel n (R155). -/
def State.fits (s : State) (n : Fin 4) : Bool :=
  match s.currentRec with
  | some r => r.fit.admits (s.head n)
  | none => false

/-- R155, R156: the lowest-numbered candidate. -/
def State.scraperCandidate (s : State) : Option (Fin 4) :=
  channels.find? fun n =>
    s.leads n && decide ((s.ch n).state = .down) && decide ((s.ch n).role = .none) && (s.ch n).latch.isNone && s.fits n

/-- R153: the scraper channel changes; SCRAPE_CHANGE is raised. -/
def setScraper (c : Option (Fin 4)) (s : State) : State :=
  if c = s.icu.scraper then s
  else raise (.scrapeChange s.icu.scraper c s.pos.m) (s.withIcu { s.icu with scraper := c })

/-- R156, R157: an evaluation of the scraper. -/
def scraperEval (s : State) : State :=
  let holds := s.scraperWanted && s.scraperPossible
  match s.icu.scraper with
  | some n =>
    if (s.ch n).state.raised && !(holds && s.leads n && s.fits n) then startFall n .command s else s
  | none =>
    if holds then
      match s.scraperCandidate with
      | some n => if scraperAccepted n s then setScraper (some n) (startRaise n .scraper s) else s
      | none => s
    else s

/-- R153: the scraper channel becomes none when its channel's role has become none. -/
def scraperRole (s : State) : State :=
  match s.icu.scraper with
  | some n => if (s.ch n).role = .none then setScraper none s else s
  | none => s

/-- R149, R159: the CURRENT record changed. DESIGN CHOICE (log 35): the head demands that rise with it arrive in channel
order 0 to 3, an admission after each. -/
def iceOnCurrent (s : State) : State :=
  channels.foldl (fun t n => headDemand n t) (s.withIcu { s.icu with inhibit := false })

end Sys2Proof.Machine
end

