-- ==== Sys2Proof/Machine/RoofLink.lean ====
section
/-! DEFINITION. The Roof Line Link's shared operations (chapter 8). -/

namespace Sys2Proof.Machine

/-- R174: the link's state and outputs change; PEER_CHANGE is raised when one of them differs, and a change of state is
handed on. -/
def setLink (x : Rll) (s : State) : State :=
  let old := s.rll
  let s1 := s.withRll x
  let moved := decide (x.state ≠ old.state)
  let driven := decide (x.rq ≠ old.rq) || decide (x.gt ≠ old.gt) || decide (x.cpl ≠ old.cpl)
  if moved || driven then
    let s2 := raise (.peerChange s.linkRole x.state x.rq x.gt x.cpl x.conflict) s1
    if moved then emit [.linkChanged, .linkRun] s2 else emit [.linkRun] s2
  else s1

/-- R170: the grant condition. -/
def State.grantCondition (s : State) : Bool :=
  decide (s.mode = .run) && (decide (s.csq.stage = .idle) || decide (s.csq.stage = .armed))

/-- R167: UNCOUPLING is entered with the outputs and the detach flag as they stand. -/
def uncouple (s : State) : State := setLink { s.rll with state := .uncoupling } s

/-- R165, R166: the test of COUPLING. The coupler is requested CLOSED until it is commanded so; once it is confirmed CLOSED,
be it by itself (R97) while its close is refused INTERLOCK, the link is COUPLED. -/
def runCoupling (s : State) : State :=
  let rc := s.act .rc
  if !s.inp.gtIn || rc.fault then uncouple s
  else
    match (if rc.commanded = .closed then (s, .absorbed) else request .rc .closed .link s) with
    | (t, .fault) => uncouple t
    | (t, _) => if (t.act .rc).confirmed = .closed then setLink { t.rll with state := .coupled, cpl := true } t else t

/-- R168: the end of UNCOUPLING. -/
def endUncoupling (s : State) : State :=
  if s.rll.detach then setLink { s.rll with state := .detached, rq := false, cpl := false, detach := false } s
  else setLink { s.rll with state := .asking, cpl := false } s

/-- R167, R168: the test of UNCOUPLING. With MB confirmed OPEN and motion NONE the coupler is requested OPEN. A coupler found
confirmed OPEN ends the uncoupling in the same change, also one that opened by itself before MB has opened (log entry 36), and
also one with a close held pending, which R94 then issues (DESIGN CHOICE, log 51). -/
def runUncoupling (s : State) : State :=
  let mbOpen : Bool := decide ((s.act .mb).confirmed = .opened) && decide ((s.act .mb).motion = .none)
  let t := if mbOpen then (request .rc .opened .link s).1 else s
  if (s.act .rc).confirmed = .opened then endUncoupling t else t

/-- R170: the senior's test. -/
def runSenior (s : State) : State :=
  if s.rll.conflict then s
  else
    match s.rll.state, s.inp.rqIn with
    | .holding, false => s
    | _, false => setLink { s.rll with state := .holding, gt := false } s
    | _, true =>
      if s.grantCondition then setLink { s.rll with state := .granting, gt := true } s
      else setLink { s.rll with state := .withheld, gt := false } s

/-- The link's tests on the state as it stands (R165 to R170). -/
def linkRun (s : State) : State :=
  match s.linkRole with
  | .alone => s
  | .senior => runSenior s
  | .junior =>
    match s.rll.state with
    | .asking => if s.inp.gtIn && !s.rll.conflict then setLink { s.rll with state := .coupling } s else s
    | .coupling => runCoupling s
    | .coupled =>
      if !s.inp.gtIn || (s.act .rc).fault || decide ((s.act .rc).confirmed ≠ .closed) then uncouple s else s
    | .uncoupling => runUncoupling s
    | _ => s

/-- R173: what a conflict does to a junior, by its state. -/
def conflictJunior (x : Rll) : Rll :=
  match x.state with
  | .asking => { x with state := .detached, rq := false }
  | .coupling | .coupled | .uncoupling => { x with state := .uncoupling, rq := false, cpl := false, detach := true }
  | _ => x

/-- R173: the conflict test. -/
def conflictTest (s : State) : State :=
  if s.rll.conflict then s
  else
    match s.linkRole with
    | .senior =>
      if s.inp.gtIn then
        let s1 := raise (.peerConflict .senior true s.rll.state) (s.withRll { s.rll with conflict := true })
        emit [.sequencerRun] (setLink { s1.rll with state := .holding, gt := false } s1)
      else s
    | .junior =>
      if s.inp.rqIn then
        let s1 := raise (.peerConflict .junior false s.rll.state) (s.withRll { s.rll with conflict := true })
        emit [.sequencerRun, .linkRun] (setLink (conflictJunior s1.rll) s1)
      else s
    | .alone => s

/-- The initial state of a role (8.1). -/
def LinkRole.initial : LinkRole → LinkState
  | .senior => .holding
  | _ => .detached

/-- The link's values for a role with flags clear and outputs dropped (R164, R175). -/
def Rll.initial (r : LinkRole) : Rll :=
  { state := r.initial, rq := false, gt := false, cpl := false, conflict := false, detach := false }

/-- R164: an accepted write of P40 resets the link. -/
def linkReset (s : State) : State :=
  let x := Rll.initial s.linkRole
  let s1 := raise (.peerChange s.linkRole x.state false false false false) (s.withRll x)
  emit [.linkRun] (conflictTest (emit [.linkChanged] s1))

end Sys2Proof.Machine
end

