-- ==== Sys2Proof/Machine/PathChange.lean ====
section
/-! DEFINITION. The path change procedure (5.6). Each step is tested again whenever something it waits on changes. -/

namespace Sys2Proof.Machine

/-- The contactor of path p has to be commanded OPEN in OPENING_PATH for a target (R102). The other path's contactor that
opened by itself while commanded CLOSED is commanded OPEN too, so that R99 holds when the target's is commanded CLOSED (log
entry 12). -/
def mustOpen (s : State) (target : Option System) (p : Path) : Bool :=
  let r := s.act (contactorOf p)
  match target with
  | none => decide (r.confirmed ≠ .opened)
  | some x =>
    if x.path = p then decide (r.confirmed ≠ .opened) && decide ((s.act (switchOf p)).confirmed ≠ confirmedAt x.tap)
    else decide (r.confirmed ≠ .opened) || decide (r.commanded = .closed)

/-- R102: the contactors OPENING_PATH commands OPEN, as the step finds them at its start. -/
def procOpens (s : State) (target : Option System) : List Actuator :=
  (([.ac, .dc] : List Path).filter (mustOpen s target)).map contactorOf

/-- R102: the actuators the steps for a target would command, in step order. -/
def procActuators (s : State) (target : Option System) : List Actuator :=
  match target with
  | none => procOpens s none
  | some x =>
    let sw := switchOf x.path
    procOpens s target ++ (if (s.act sw).confirmed = confirmedAt x.tap then [] else [sw]) ++ [contactorOf x.path]

/-- The answer to a request to run the procedure (R102). -/
inductive ProcOut where
  | busy | interlock | fault (a : Actuator) | done | taken
  deriving DecidableEq, Repr

/-- R102: a request to run the procedure. DESIGN CHOICE (log 47): of several faulted actuators that its steps would command,
FAULT names the first in step order, KA before KD. -/
def procRequest (target : Option System) (c : Caller) (s : State) : State × ProcOut :=
  if s.sgd.proc.isSome then (s, .busy)
  else if (s.act .mb).confirmed ≠ .opened ∨ (s.act .mb).motion ≠ .none then (s, .interlock)
  else
    match (procActuators s target).find? fun a => (s.act a).fault with
    | some a => (s, .fault a)
    | none =>
      if s.selectedNow = target then (s, .done)
      else
        (emit [.procRun]
          (s.withSgd { s.sgd with
            proc := some { step := .openingPath, target := target, caller := c, commanded := procOpens s target } }),
         .taken)

/-- R103: the procedure ends failed; the failure is reported to its caller with the actuator concerned. -/
def procFail (a : Actuator) (s : State) : State :=
  match s.sgd.proc with
  | none => s
  | some p => emit [.procFailed p.caller a] (s.withSgd { s.sgd with proc := none })

/-- R102: the procedure ends completed. -/
def procComplete (p : Proc) (s : State) : State := emit [.procDone p.caller] (s.withSgd { s.sgd with proc := none })

/-- R102: the next step starts. -/
def procStep (p : Proc) (st : ProcStep) (s : State) : State :=
  emit [.procRun] (s.withSgd { s.sgd with proc := some { p with step := st } })

/-- The procedure commands an actuator (R103, R126). -/
def procCommands (p : Proc) (a : Actuator) (s : State) : State :=
  if p.commanded.contains a then s
  else s.withSgd { s.sgd with proc := some { p with commanded := p.commanded ++ [a] } }

/-- R103: an actuator that has left the position an earlier step confirmed. From GUARD on it is the other path's contactor
when it is not confirmed OPEN. Until CLOSING_PATH it is also the target path's own, when OPENING_PATH opened it, or found it
open for a switch that has still to move. DESIGN CHOICE (log 50): which of the contactors that OPENING_PATH found open without
commanding them count as confirmed by it. -/
def pathLost (s : State) (p : Proc) (x : System) : Option Actuator :=
  let other := contactorOf (otherPath x.path)
  let own := contactorOf x.path
  let k := s.act own
  let held : Bool := p.commanded.contains own ||
    (decide (k.commanded = .opened) && decide ((s.act (switchOf x.path)).confirmed ≠ confirmedAt x.tap))
  if (s.act other).confirmed ≠ .opened then some other
  else if p.step ≠ .closingPath ∧ held = true ∧ k.confirmed ≠ .opened then some own
  else none

/-- R102: the test of OPENING_PATH. It ends when each contactor it commanded is confirmed OPEN, whatever the switch shows by
then. -/
def openPath (p : Proc) (s : State) : State :=
  let todo := p.commanded.filter fun a => decide ((s.act a).confirmed ≠ .opened) || decide ((s.act a).commanded = .closed)
  if todo.isEmpty then
    (if p.target.isNone then procComplete p s else procStep p .guard s)
  else todo.foldl (fun t a => (request a .opened .procedure t).1) s

/-- R102: the test of SETTING_TAP. The switch is requested to the target's position, by R94 while it moves; a fault of it ends
the procedure (R103). DESIGN CHOICE (log 46): a request refused INTERLOCK, for the target's contactor not confirmed OPEN, ends the
procedure failed with that contactor. -/
def setTap (p : Proc) (x : System) (s : State) : State :=
  let sw := switchOf x.path
  if (s.act sw).confirmed = confirmedAt x.tap ∧ (s.act sw).motion = .none then procStep p .closingPath s
  else
    match request sw x.tap .procedure (procCommands p sw s) with
    | (t, .interlock) => procFail (contactorOf x.path) t
    | (t, .fault) => procFail sw t
    | (t, _) => t

/-- R102: the test of CLOSING_PATH. -/
def closePath (p : Proc) (x : System) (s : State) : State :=
  let k := contactorOf x.path
  let sw := switchOf x.path
  if (s.act sw).confirmed ≠ confirmedAt x.tap then procFail sw s
  else if (s.act k).confirmed = .closed then procComplete p s
  else if (s.act k).commanded = .closed then s
  else (request k .closed .procedure (procCommands p k s)).1

/-- R102, R103: the step in course is tested, and what it commands is commanded. -/
def procRun (s : State) : State :=
  match s.sgd.proc with
  | none => s
  | some p =>
    match p.step, p.target with
    | .openingPath, _ => openPath p s
    | _, none => procComplete p s
    | st, some x =>
      match pathLost s p x with
      | some a => procFail a s
      | none =>
        match st with
        | .settingTap => setTap p x s
        | .closingPath => closePath p x s
        | _ => if s.guarded (otherPath x.path) then s else procStep p .settingTap s

/-- The actuators of a procedure whose fault ends it (R103): the path contactors and the target path's switch. DESIGN CHOICE
(log 39): one of them that a later step would command ends it too, such as one still moving from a reset. -/
def procConcerns (p : Proc) (a : Actuator) : Bool :=
  decide (a = .ka) || decide (a = .kd) ||
  (match p.target with | some x => decide (a = switchOf x.path) | none => false)

/-- R103: a fault of an actuator of the procedure ends it failed. -/
def procOnFault (a : Actuator) (s : State) : State :=
  match s.sgd.proc with
  | some p => if procConcerns p a then procFail a s else s
  | none => s

end Sys2Proof.Machine
end

