-- ==== Sys2Proof/Machine/Route.lean ====
section
/-! DEFINITION. The Route Map's shared operations (chapter 2): lookup, probes, the gap watch list and the sweep. -/

namespace Sys2Proof.Machine

open Config

/-! ## Lookup (2.3) -/

/-- R20, R21: the stored content agrees with the check code. -/
def SpanEntry.intact (e : SpanEntry) : Bool := decide (e.content = e.code)

/-- The check of a zone entry. -/
def ZoneEntry.intact (z : ZoneEntry) : Bool := decide (z.content = z.code)

/-- R22: a valid, unbarred span entry of the key. -/
def SpanEntry.hasKey (e : SpanEntry) (route granule : Nat) : Bool :=
  e.valid && !e.barred && decide (e.content.route = route) && decide (e.content.granule = granule)

/-- R22: a valid zone of the route whose range holds the granule. -/
def ZoneEntry.covers (z : ZoneEntry) (route granule : Nat) : Bool :=
  z.valid && decide (z.content.route = route) && decide (z.content.base ≤ granule) &&
  decide (granule < z.content.base + 2 ^ z.content.sizeCode)

/-- R21, R22: the search of the span entries from slot k on: the slots that failed their check, and the slot that answers.
DESIGN CHOICE (log 48): the slots are tested in order, and the search ends at the first that answers, so an entry of the key in
a higher slot is not tested. -/
def searchSpans (route granule : Nat) : Nat → List SpanEntry → List Nat × Option (Nat × SpanContent)
  | _, [] => ([], none)
  | k, e :: rest =>
    if e.hasKey route granule then
      if e.intact then ([], some (k, e.content))
      else
        let r := searchSpans route granule (k + 1) rest
        (k :: r.1, r.2)
    else searchSpans route granule (k + 1) rest

/-- R21, R22: the same search of the zone entries. -/
def searchZones (route granule : Nat) : Nat → List ZoneEntry → List Nat × Option (Nat × ZoneContent)
  | _, [] => ([], none)
  | k, z :: rest =>
    if z.covers route granule then
      if z.intact then ([], some (k, z.content))
      else
        let r := searchZones route granule (k + 1) rest
        (k :: r.1, r.2)
    else searchZones route granule (k + 1) rest

/-- What a lookup finds: failed slots in the order met, and the answer. -/
structure Looked where
  badSpans : List Nat
  badZones : List Nat
  hit : Option ProbeHit
  deriving DecidableEq, Repr

/-- R23: the record a span entry gives at an offset, with its source. -/
def spanHit (slot : Nat) (c : SpanContent) (offset : Nat) : ProbeHit :=
  match c.tail with
  | none => { record := c.head, source := .span slot false, boundary := none }
  | some (b, t) =>
    if offset < b then { record := c.head, source := .span slot false, boundary := some b }
    else { record := t, source := .span slot true, boundary := some b }

/-- R22, R23: the lookup at point p for a route, without its effects. -/
def lookup (m : Rmap) (route : Nat) (p : Int) : Looked :=
  if route = 0 ∨ p < 0 ∨ (maxM : Int) < p then { badSpans := [], badZones := [], hit := none }
  else
    let g := p.toNat / 256
    let sp := searchSpans route g 0 m.spans.toList
    match sp.2 with
    | some (k, c) => { badSpans := sp.1, badZones := [], hit := some (spanHit k c (p.toNat % 256)) }
    | none =>
      let zp := searchZones route g 0 m.zones.toList
      { badSpans := sp.1, badZones := zp.1
        hit := zp.2.map fun x => { record := x.2.record, source := .zone x.1, boundary := none } }

/-! ## Effects of a search (R21, R23) -/

/-- The span entry of a slot changed; a slot above 39 changes nothing. -/
def Rmap.modSpan (m : Rmap) (k : Nat) (f : SpanEntry → SpanEntry) : Rmap :=
  if h : k < 40 then { m with spans := m.spans.set k (f (m.spans.get ⟨k, h⟩)) h } else m

/-- The zone entry of a slot changed. -/
def Rmap.modZone (m : Rmap) (k : Nat) (f : ZoneEntry → ZoneEntry) : Rmap :=
  if h : k < 6 then { m with zones := m.zones.set k (f (m.zones.get ⟨k, h⟩)) h } else m

/-- R21: a span entry that failed is barred, with ENTRY_FAULT. -/
def barSpan (k : Nat) (s : State) : State :=
  raise (.entryFault (.span k false)) (s.withRmap (s.rmap.modSpan k fun e => { e with valid := false, barred := true }))

/-- R21: a zone entry that failed is invalidated, with ENTRY_FAULT. -/
def dropZone (k : Nat) (s : State) : State :=
  raise (.entryFault (.zone k)) (s.withRmap (s.rmap.modZone k fun z => { z with valid := false }))

/-- R21: every entry a search found failed. -/
def applyFailures (spans zones : List Nat) (s : State) : State :=
  zones.foldl (fun t k => dropZone k t) (spans.foldl (fun t k => barSpan k t) s)

/-- R23: the used flag of the span entry that answered. -/
def markUsed (h : Option ProbeHit) (s : State) : State :=
  match h with
  | some { source := .span k _, .. } => s.withRmap (s.rmap.modSpan k fun e => { e with used := true })
  | _ => s

/-- R22, R23: a probe at point p for the present route; it misses while RANGE is set. -/
def probe (p : Int) (s : State) : State × Option ProbeHit :=
  if s.pos.range then (s, none)
  else
    let l := lookup s.rmap s.pos.route p
    (markUsed l.hit (applyFailures l.badSpans l.badZones s), l.hit)

/-! ## Watch list (2.5) -/

/-- R29: M has passed the gap's far edge by more than d_clear. DESIGN CHOICE (log 41): P04 is read at each test, also by the
offers of a probe or a sweep between a write of P04 and the next change of M. -/
def gapPassed (s : State) (g : GapPart) : Bool :=
  match s.pos.dir with
  | .ascending => decide (g.hi + s.par 4 < s.pos.m)
  | .descending => decide (s.pos.m + s.par 4 < g.lo)

/-- R28: `a` stands before `b` in the travel direction. -/
def gapBefore (d : Dir) (a b : GapPart) : Bool :=
  match d with
  | .ascending => decide (a.lo < b.lo) || (decide (a.lo = b.lo) && decide (a.hi < b.hi))
  | .descending => decide (b.hi < a.hi) || (decide (a.hi = b.hi) && decide (b.lo < a.lo))

/-- R28: a record put at its place in the order. -/
def insertGap (d : Dir) (w : WatchGap) : List WatchGap → List WatchGap
  | [] => [w]
  | x :: rest => if gapBefore d w.gap x.gap then w :: x :: rest else x :: insertGap d w rest

/-- What became of an offer. -/
inductive Offered where
  | added | dropped | refused
  deriving DecidableEq, Repr

/-- The gap of a record, when it is of a gap kind. -/
def SectionRec.watch (r : SectionRec) : Option WatchGap :=
  match r.stretch with
  | .phaseGap g => some { system := false, gap := g }
  | .systemGap g => some { system := true, gap := g }
  | _ => none

/-- R28: a gap offered to the watch list. -/
def offerGap (w : WatchGap) (s : State) : State × Offered :=
  if s.rmap.watch.any (fun x => decide (x.gap.lo = w.gap.lo) && decide (x.gap.hi = w.gap.hi)) then (s, .dropped)
  else if gapPassed s w.gap then (s, .dropped)
  else if s.rmap.watch.length < watchPlaces then
    (s.withRmap { s.rmap with watch := insertGap s.pos.dir w s.rmap.watch }, .added)
  else (s, .refused)

/-- R28: the record of a probe or of a granule read is offered when it is a gap. -/
def offerHit (h : Option ProbeHit) (s : State) : State × Offered :=
  match h.bind fun x => x.record.watch with
  | some w => offerGap w s
  | none => (s, .dropped)

/-- R29: listed records that M has passed leave the list. -/
def removePassed (s : State) : State :=
  let l := s.rmap.watch.filter fun w => !gapPassed s w.gap
  if l = s.rmap.watch then s else emit [.listChanged true] (s.withRmap { s.rmap with watch := l })

/-! ## The two probe points (2.4) -/

/-- R25: the AHEAD point. -/
def State.aheadPoint (s : State) : Int :=
  match s.pos.dir with
  | .ascending => (s.pos.m : Int) + s.par 2
  | .descending => (s.pos.m : Int) - s.par 2

/-- R24: a probe point that moved to p calls for a probe: another granule, or the other side of the boundary of the span
entry that answered last. -/
def needsProbe (pr : Probe) (p : Int) : Bool :=
  decide (p / 256 ≠ pr.point / 256) ||
  (match pr.hit.bind (·.boundary) with
   | some b => decide (decide ((b : Int) ≤ p % 256) ≠ decide ((b : Int) ≤ pr.point % 256))
   | none => false)

/-- R26: the CURRENT probe. -/
def probeCurrent (s : State) : State :=
  let old := s.currentRec
  let r := probe s.pos.m s
  let s1 := r.1.withRmap { r.1.rmap with current := { point := s.pos.m, hit := r.2 } }
  let new := r.2.map (·.record)
  if new = old then s1
  else
    let s2 :=
      match new with
      | some x => raise (.sectionChange s1.pos.m x) s1
      | none => raise (.missHere s1.pos.m) s1
    emit [.currentChanged] s2

/-- R27: SHORT is set; MISS_AHEAD is raised when it was clear. -/
def setShort (p : Int) (full : Bool) (s : State) : State :=
  let s1 := s.withRmap { s.rmap with short := true }
  if s.rmap.short then s1 else raise (.missAhead p full) s1

/-- R25, R27, R28: the AHEAD probe outside a sweep. -/
def probeAhead (s : State) : State :=
  let p := s.aheadPoint
  let r := probe p s
  let s1 := r.1.withRmap { r.1.rmap with ahead := { point := p, hit := r.2 } }
  match r.2 with
  | none => setShort p false s1
  | some h =>
    match offerHit (some h) s1 with
    | (t, .refused) => setShort p true t
    | (t, .added) => emit [.listChanged false] (t.withRmap { t.rmap with short := false })
    | (t, .dropped) => t.withRmap { t.rmap with short := false }

/-- R4, R24, R25, R29: a change of M by an axle edge. DESIGN CHOICE (log 27): where both probes are called for, CURRENT is
probed before AHEAD, which the spec does not order. -/
def mapMoved (s : State) : State :=
  let s1 := if needsProbe s.rmap.current s.pos.m then probeCurrent s else s
  let s2 := if needsProbe s1.rmap.ahead s1.aheadPoint then probeAhead s1 else s1
  removePassed s2

/-! ## Sweep (R30) -/

/-- A sweep in course: the state, and the first point that missed or was refused, with its cause (true for FULL). -/
structure Sweep where
  st : State
  problem : Option (Int × Bool)

/-- R30: one point of a granule is looked up and a gap found is offered. DESIGN CHOICE (log 32): the point looked up is
the one MISS_AHEAD carries when it is the first that misses or is refused; of a miss and a refusal in one sweep, the one met
first in travel order counts. -/
def sweepPoint (p : Int) (w : Sweep) : Sweep × Option ProbeHit :=
  let r := probe p w.st
  let note (full : Bool) : Option (Int × Bool) := match w.problem with | some x => some x | none => some (p, full)
  match r.2 with
  | none => ({ st := r.1, problem := note false }, none)
  | some h =>
    match offerHit (some h) r.1 with
    | (t, .refused) => ({ st := t, problem := note true }, some h)
    | (t, _) => ({ st := t, problem := w.problem }, some h)

/-- R30: the part of granule g from `lo` to `hi` is read in travel order; where a span entry with a boundary answers and
both its parts lie in it, both records are read. DESIGN CHOICE (log 32): a granule, and the part beyond a boundary, is
looked up at the first of its points in travel order that lies in the stretch. -/
def sweepGranule (d : Dir) (g lo hi : Int) (w : Sweep) : Sweep :=
  let a := max lo (256 * g)
  let b := min hi (256 * g + 255)
  let first := match d with | .ascending => a | .descending => b
  let r := sweepPoint first w
  match r.2.bind (·.boundary) with
  | none => r.1
  | some k =>
    let edge : Int := 256 * g + k
    if a < edge ∧ edge ≤ b then
      (sweepPoint (match d with | .ascending => edge | .descending => edge - 1) r.1).1
    else r.1

/-- R30: the granules of the stretch in travel order. -/
def sweepGranules (d : Dir) (lo hi : Int) : List Int → Sweep → Sweep
  | [], w => w
  | g :: rest, w => sweepGranules d lo hi rest (sweepGranule d g lo hi w)

/-- The granule numbers from a on, `n` of them, upward. -/
def granulesUp (a : Int) : Nat → List Int
  | 0 => []
  | n + 1 => a :: granulesUp (a + 1) n

/-- R30: the granules from M to the AHEAD point, cut at the ends of the route, in travel order. -/
def sweepOrder (d : Dir) (lo hi : Int) : List Int :=
  let up := granulesUp (lo / 256) ((hi / 256 - lo / 256).toNat + 1)
  match d with
  | .ascending => up
  | .descending => up.reverse

/-- R30: a sweep rebuilds the watch list, makes the AHEAD probe and sets or clears SHORT. -/
def sweep (s : State) : State :=
  let p := s.aheadPoint
  let m : Int := s.pos.m
  let lo := max 0 (min m p)
  let hi := min (maxM : Int) (max m p)
  let w0 : Sweep := { st := s.withRmap { s.rmap with watch := [] }, problem := none }
  let w1 := sweepGranules s.pos.dir lo hi (sweepOrder s.pos.dir lo hi) w0
  let r := sweepPoint p w1
  let s1 := r.1.st.withRmap { r.1.st.rmap with ahead := { point := p, hit := r.2 } }
  let s2 :=
    match r.1.problem with
    | some (q, full) => raise (.missAhead q full) (s1.withRmap { s1.rmap with short := true })
    | none => s1.withRmap { s1.rmap with short := false }
  emit [.listChanged true] s2

/-- R31: CURRENT is re-probed, then the list is swept. -/
def mapRound (s : State) : State := sweep (probeCurrent s)

/-- R5, R24: RANGE set by the limit rule; both probes are made and miss, CURRENT before AHEAD (DESIGN CHOICE, log 27). -/
def rangeProbes (s : State) : State := probeAhead (probeCurrent s)

end Sys2Proof.Machine
end

