-- ==== Sys2Proof/Machine/Sequencer.lean ====
section
/-! DEFINITION. The Changeover Sequencer's shared operations (chapter 6): arming and derivation of a plan, entry into a
stage with what the entry asks for, the test that ends each stage, and failures. -/

namespace Sys2Proof.Machine

open Config

/-! ## Derivation (6.2) -/

/-- R117: the nearest eligible system gap of the watch list. -/
def State.eligibleGap (s : State) : Option WatchGap :=
  s.rmap.watch.find? fun w =>
    w.system && decide (s.csq.declined ≠ some (w.gap.lo, w.gap.hi)) && !gapPassed s w.gap

/-- R117: the channel that holds role COLLECTOR in STROKING, RISING or UP. -/
def State.oldChannel (s : State) : Option (Fin 4) :=
  channels.find? fun n => decide ((s.ch n).role = .collector) && (s.ch n).state.raised

/-- R118: whether channel n may be chosen by orders 2 and 3. -/
def State.choosable (s : State) (x : System) (fit : HeadFit) (n : Fin 4) : Bool :=
  decide ((s.ch n).state ≠ .isolated) && decide ((s.ch n).state ≠ .stuck) && (s.ch n).latch.isNone && s.allows n x &&
  fit.admits (s.head n)

/-- R118: the target channel. -/
def State.chooseTarget (s : State) (old : Option (Fin 4)) (x : System) (fit : HeadFit) : Option (Fin 4) :=
  let searched :=
    match channels.find? fun n => !s.leads n && s.choosable x fit n with
    | some n => some n
    | none => channels.find? fun n => s.leads n && s.choosable x fit n
  match old with
  | some n => if s.allows n x && fit.admits (s.head n) then some n else searched
  | none => searched

/-- R120: the far-side probe and the head fit it gives. -/
def farSideFit (g : GapPart) (s : State) : State × HeadFit :=
  let r := probe (match s.pos.dir with | .ascending => (g.hi : Int) + 1 | .descending => (g.lo : Int) - 1) s
  (r.1, match r.2 with | some h => h.record.fit | none => .any)

/-- R117, R119: a route plan derived from a gap with the far-side head fit. -/
def State.routePlan (s : State) (g : GapPart) (fit : HeadFit) : Plan :=
  let old := s.oldChannel
  let fed := s.fedByLine
  let target := match s.pos.dir with | .ascending => g.supplyHi | .descending => g.supplyLo
  let tgt := if fed then none else s.chooseTarget old target fit
  { source := s.selectedNow
    target := target
    route := some
      (match s.pos.dir with
       | .ascending => { approach := g.lo, far := g.hi, dir := .ascending }
       | .descending => { approach := g.hi, far := g.lo, dir := .descending })
    lowerNeeded := g.lowerInGap || (!fed && decide (tgt ≠ old))
    old := old
    tgt := tgt
    fed := fed }

/-- R139: a manual plan. -/
def State.manualPlan (s : State) (target : System) : Plan :=
  let old := s.oldChannel
  let fed := s.fedByLine
  let fit := match s.currentRec with | some r => r.fit | none => .any
  let tgt := if fed then none else s.chooseTarget old target fit
  { source := s.selectedNow, target := target, route := none, lowerNeeded := !fed && decide (tgt ≠ old), old := old
    tgt := tgt, fed := fed }

/-- The gap of a route plan by its gap_lo and gap_hi. -/
def Plan.gap (p : Plan) : Option (Nat × Nat) :=
  p.route.map fun r => match r.dir with | .ascending => (r.approach, r.far) | .descending => (r.far, r.approach)

/-- The origin of a plan. -/
def Plan.origin (p : Plan) : Origin := if p.route.isSome then .route else .manual

/-- CO_ARMED for a plan (R117). -/
def armedEvent (p : Plan) : Event := .coArmed p.origin p.source p.target p.tgt (p.route.map (·.approach))

/-! ## Entry into a stage (R116) -/

/-- The stage in course with the timer stopped and nothing waited on. -/
def setStage (st : Stage) (s : State) : State :=
  s.withCsq { s.csq with stage := st, timer := none, retry := none, switchWait := .none, waitFor := [] }

/-- CO_STAGE for a stage of the present plan with the highest hold given. -/
def stageEvent (st : Stage) (h : Option Hold) (s : State) : Event :=
  .coStage st h (s.csq.plan.map (·.target)) (s.csq.plan.bind (·.tgt)) s.pos.m

/-- R125: the old channel and the scraper are lowered, and the stage waits on them and on the target. -/
def beginLowering (p : Plan) (s : State) : State :=
  if p.lowerNeeded then
    let scr := s.holder .scraper
    let lower (c : Option (Fin 4)) (t : State) : State := match c with | some n => lowerRaised n .command t | none => t
    let s1 := lower scr (lower p.old s)
    s1.withCsq { s1.csq with timer := none, waitFor := [p.old, scr, p.tgt].filterMap id }
  else s.withCsq { s.csq with timer := none }

/-- R126: the request for the path change procedure. -/
def askSwitch (p : Plan) (s : State) : State :=
  let note (w : SwitchWait) (t : State) : State := t.withCsq { t.csq with switchWait := w }
  match procRequest (some p.target) .sequencer s with
  | (t, .busy) => note .busy t
  | (t, .interlock) => note .interlock t
  | (t, .fault _) => emit [.sequencerFail .actuator] t
  | (t, .done) => note .done t
  | (t, .taken) => note .running t

/-- R128: the request to raise the target channel, made at the entry or repeated. -/
def askRaise (n : Fin 4) (s : State) : State :=
  let s0 := s.withCsq { s.csq with retry := none }
  match sequencerBar n s0 with
  | none => startRaise n .collector s0
  | some .latched => emit [.sequencerFail .strip] s0
  | some .emerg => emit [.sequencerFail .emerg] s0
  | some .system => emit [.sequencerFail .actuator] s0
  | some b => s0.withCsq { s0.csq with retry := some b }

/-- The channel is UP with role COLLECTOR. -/
def State.collects (s : State) (n : Fin 4) : Bool := decide ((s.ch n).state = .up) && decide ((s.ch n).role = .collector)

/-- R124: the senior's LOWERING waits for CPL_in to fall. -/
def State.peerWait (s : State) : Bool := decide (s.linkRole = .senior) && !s.rll.conflict && s.inp.cplIn

/-- What the entry into a stage asks of the other blocks (R124 to R132). -/
def entryActions (st : Stage) (s : State) : State :=
  match st, s.csq.plan with
  | .lowering, some p =>
    if s.peerWait then s.withCsq { s.csq with timer := some (sec (s.par 41)) } else beginLowering p s
  | .switching, some p =>
    if s.selectedNow = some p.target then s.withCsq { s.csq with switchWait := .done } else askSwitch p s
  | .raising, some p =>
    (match p.tgt with
     | some n => if s.collects n then s else askRaise n s
     | none => s)
  | .proving, some p =>
    if !p.fed || decide (s.rll.state = .coupled) then s.withCsq { s.csq with timer := some (sec (s.par 15)) } else s
  | .closing, some _ => (closeMb .sequencer (refresh s)).1
  | _, _ => s

/-- R116, R133: the highest hold present after the entry, found by looking ahead at what the entry brings about at once. -/
def holdAfterEntry (st : Stage) (s : State) : Option Hold :=
  let t := refresh (entryActions st s)
  match st, s.csq.plan with
  | .switching, _ => (procRun (procRun (procRun (procRun t)))).highestHold
  | .raising, some p =>
    (match p.tgt with
     | some n => if (t.ch n).state = .up ∧ (s.ch n).state ≠ .up then (isoClose n t).highestHold else t.highestHold
     | none => t.highestHold)
  | _, _ => t.highestHold

/-- R116: entry into a stage. CO_STAGE is raised, the entry's requests are made and the entry is handed on. -/
def enterStage (st : Stage) (s : State) : State :=
  let s1 := setStage st s
  let s2 := raise (stageEvent st (holdAfterEntry st s1) s1) s1
  emit [.stageEntered st, .sequencerRun] (entryActions st s2)

/-- The plan is discarded and the sequencer enters IDLE. -/
def toIdle (s : State) : State := enterStage .idle (s.withCsq { s.csq with plan := none, failReason := none })

/-! ## Failures (6.5) -/

/-- ARMED, or a stage from OPENING to CLOSING. -/
def Stage.planned (st : Stage) : Bool := decide (st = .armed) || st.running

/-- R134: a failure enters FAILED; CO_FAIL is raised and the CO_STAGE of the entry follows it; SEQFAIL joins, latched. -/
def failPlan (r : FailReason) (s : State) : State :=
  let st := s.csq.stage
  if st.planned then
    let s1 := setStage .failed (s.withCsq { s.csq with failReason := some r })
    let s2 := raise (stageEvent .failed none s1) (raise (.coFail r st s.pos.m) s1)
    emit [.stageEntered .failed, .sequencerRun] (updateReasons (fun x => { x with seqfail := true }) s2)
  else s

/-- A failure in OPENING to CLOSING; in any other stage nothing changes. -/
def failRunning (r : FailReason) (s : State) : State := if s.csq.stage.running then failPlan r s else s

/-- R135: the reason a drop of the target gives, by its cause. -/
def dropFailure : Cause → FailReason
  | .riseTimeout => .timeoutRaise
  | .emerg => .emerg
  | .breakerFail => .actuator
  | _ => .strip

/-- The channel is the target of a plan in OPENING to PROVING (R135). -/
def State.watched (s : State) (n : Fin 4) : Bool :=
  s.csq.stage.holdsBreaker && (match s.csq.plan with | some p => decide (p.tgt = some n) | none => false)

/-- R135: the drop latch of the target is set. -/
def targetLatched (n : Fin 4) (s : State) : State :=
  if s.watched n then failPlan (dropFailure ((s.ch n).latch.getD .strip)) s else s

/-- R135: the target enters FALLING; a COMMAND fall in OPENING or LOWERING is the plan's own or the scraper's withdrawal. -/
def targetFell (n : Fin 4) (s : State) : State :=
  let c := (s.ch n).fallCause.getD .strip
  if s.watched n then
    if c = .command ∧ (s.csq.stage = .opening ∨ s.csq.stage = .lowering) then s else failPlan (dropFailure c) s
  else s

/-! ## Arming, derivation and the opening test -/

/-- R122: when the opening distance is met the plan is derived a last time and its result decides. -/
def leaveArmed (s : State) : State :=
  match s.csq.plan with
  | none => s
  | some p =>
    if s.inp.emerg then failPlan .emerg s
    else if p.tgt.isNone && !p.fed then failPlan .nochan s
    else enterStage .opening s

/-- R121: a derivation of a route plan in ARMED. -/
def derivePlan (s : State) : State :=
  match s.csq.stage, s.csq.plan with
  | .armed, some p =>
    if p.route.isNone then s
    else
      (match s.eligibleGap with
       | none => emit [.sequencerArm] (toIdle s)
       | some w =>
         let r := farSideFit w.gap s
         let q := r.1.routePlan w.gap r.2
         let s1 := r.1.withCsq { r.1.csq with plan := some q }
         if q.gap = p.gap then s1 else raise (armedEvent q) s1)
  | _, _ => s

/-- The plan in ARMED meets its opening distance. -/
def State.opens (s : State) : Bool :=
  match s.csq.stage, s.csq.plan with
  | .armed, some p => openingMet s p
  | _, _ => false

/-- R122: the opening test. -/
def openingTest (s : State) : State :=
  if s.opens then
    let t := derivePlan s
    if t.opens then leaveArmed t else t
  else s

/-- R121, R122: a derivation with the opening test that follows it. -/
def rederive (s : State) : State := openingTest (derivePlan s)

/-- A plan is armed: CO_ARMED, then the entry into ARMED, then the opening test (R117, R139). -/
def armPlan (p : Plan) (s : State) : State :=
  let s1 := s.withCsq { s.csq with plan := some p, failReason := none }
  emit [.openingTest] (enterStage .armed (raise (armedEvent p) s1))

/-- R117: the arming test. -/
def armTest (s : State) : State :=
  if s.csq.stage = .idle ∧ s.mode = .run then
    match s.eligibleGap with
    | none => s
    | some w =>
      let r := farSideFit w.gap s
      armPlan (r.1.routePlan w.gap r.2) r.1
  else s

/-! ## The stages (6.3) -/

/-- R127: M has passed the plan's far edge by more than d_clear in the plan's direction. -/
def State.pastFar (s : State) (r : PlanRoute) : Bool :=
  match r.dir with
  | .ascending => decide (r.far + s.par 4 < s.pos.m)
  | .descending => decide (s.pos.m + s.par 4 < r.far)

/-- R124, R125: the test of LOWERING. A peer wait in course ends with CPL_in alone, also in a conflict (DEDUCED, log 26) and
once P40 gives the link another role (DESIGN CHOICE, log 49). -/
def runLowering (p : Plan) (s : State) : State :=
  if s.csq.timer.isSome then
    if s.inp.cplIn then s else emit [.sequencerRun] (beginLowering p s)
  else if !p.lowerNeeded then enterStage .switching s
  else if s.csq.waitFor.any fun n => decide ((s.ch n).state = .stuck) then failPlan .timeoutLower s
  else if s.csq.waitFor.all fun n => (s.ch n).state.stowed then enterStage .switching s
  else s

/-- R126: the test of SWITCHING. -/
def runSwitching (p : Plan) (s : State) : State :=
  match s.csq.switchWait with
  | .done => enterStage (if p.route.isSome then .waiting else .raising) s
  | .busy => if s.sgd.proc.isNone then emit [.sequencerRun] (askSwitch p s) else s
  | .interlock =>
    if (s.act .mb).confirmed = .opened ∧ (s.act .mb).motion = .none then emit [.sequencerRun] (askSwitch p s) else s
  | _ => s

/-- R129, R130: the test of RAISING. A target already UP as collector whose isolator stands faulted fails the plan at once,
although no close is requested then (log entry 25). -/
def runRaising (p : Plan) (s : State) : State :=
  match p.tgt with
  | none => if p.fed then enterStage .proving s else s
  | some n =>
    if s.collects n then
      if (s.act (isoOf n)).fault then failPlan .actuator s
      else if (s.act (isoOf n)).confirmed = .closed then enterStage .proving s
      else s
    else s

/-- R131: the test of PROVING. -/
def runProving (p : Plan) (s : State) : State :=
  if p.fed && (decide (s.rll.state = .detached) || s.rll.conflict) then failPlan .peer s
  else
    let s1 :=
      if p.fed && s.csq.timer.isNone && decide (s.rll.state = .coupled) then
        s.withCsq { s.csq with timer := some (sec (s.par 15)) }
      else s
    if s1.csq.timer.isSome && decide (s1.lcl.line = .sys p.target) then enterStage .closing s1 else s1

/-- R132: the test of CLOSING: the plan ends unless MB is in motion toward CLOSED or its close is held pending. DESIGN
CHOICE (log 33): a close of the plan that another requester's close superseded (R94) is not missed; the plan waits on the
close in its place. -/
def runClosing (p : Plan) (s : State) : State :=
  let r := s.act .mb
  if (r.commanded = .closed ∧ r.motion ≠ .none) ∨ (r.pending.map (·.1)) = some .closed then s
  else emit [.sequencerArm] (toIdle (raise (.coDone p.origin p.target s.pos.m) s))

/-- The stage in course is tested; WAITING is tested by `waitingTest` alone. -/
def sequencerRun (s : State) : State :=
  match s.csq.plan with
  | none => s
  | some p =>
    match s.csq.stage with
    | .idle => s
    | .armed => s
    | .opening =>
      if (s.act .mb).fault then failPlan .actuator s
      else if (s.act .mb).confirmed = .opened ∧ (s.act .mb).motion = .none then enterStage .lowering s
      else s
    | .lowering => runLowering p s
    | .switching => runSwitching p s
    | .waiting => s
    | .raising => runRaising p s
    | .proving => runProving p s
    | .closing => runClosing p s
    | .failed => s

/-- R127: the test of WAITING, made on entry and at each change of M, and at no other moment. -/
def waitingTest (s : State) : State :=
  match s.csq.stage, s.csq.plan.bind (·.route) with
  | .waiting, some r => if s.pastFar r then enterStage .raising s else s
  | _, _ => s

/-- R128: a refused raise request is repeated when its condition may have changed. -/
def raiseRetry (b : RaiseBar) (s : State) : State :=
  match s.csq.stage, s.csq.retry, s.csq.plan with
  | .raising, some c, some p =>
    if c = b then (match p.tgt with | some n => emit [.sequencerRun] (askRaise n s) | none => s) else s
  | _, _, _ => s

/-! ## What reaches a plan in flight -/

/-- R117, R121, R140: a change of the watch list. `cleared` tells a removal or a finished sweep, which may clear the
declined gap. -/
def onListChange (cleared : Bool) (s : State) : State :=
  let keeps := fun (g : Nat × Nat) => s.rmap.watch.any fun w => decide ((w.gap.lo, w.gap.hi) = g)
  let s1 :=
    match s.csq.declined with
    | some g => if cleared && !keeps g then s.withCsq { s.csq with declined := none } else s
    | none => s
  if s1.csq.stage = .idle then armTest s1 else rederive s1

/-- R137: a reversal of the travel direction. -/
def onReversal (s : State) : State :=
  let s1 := s.withCsq { s.csq with declined := none }
  if s1.csq.stage = .armed then toIdle s1 else failRunning .reversed s1

/-- R138: a change of mode. -/
def onMode (s : State) : State :=
  match s.mode with
  | .run => armTest s
  | .standby => if s.csq.stage = .armed then toIdle s else failRunning .standby s

/-- R126: the procedure ended completed. -/
def onProcDone (c : Caller) (s : State) : State :=
  let s1 :=
    if c = .sequencer ∧ s.csq.stage = .switching ∧ s.csq.switchWait = .running then
      s.withCsq { s.csq with switchWait := .done }
    else s
  emit [.sequencerRun] s1

/-- R126: the procedure ended failed. -/
def onProcFailed (c : Caller) (s : State) : State :=
  if c = .sequencer ∧ s.csq.stage = .switching ∧ s.csq.switchWait = .running then failPlan .actuator s
  else emit [.sequencerRun] s

/-- R130: a fault of the target's isolator in RAISING. -/
def onIsoFault (a : Actuator) (s : State) : State :=
  match s.csq.stage, s.csq.plan with
  | .raising, some p => if p.tgt.isSome ∧ p.tgt = chanOfIso a then failPlan .actuator s else s
  | _, _ => s

end Sys2Proof.Machine
end

