-- ==== Sys2Proof/Machine/Settle.lean ====
section
/-! DEFINITION. How a change handed on by one block reaches the others: `handle` says what each change does in the blocks
that act on it, `settle` runs until nothing is left to hand on (log entry 2). -/

namespace Sys2Proof.Machine

/-- R63: what the blocks do with a change of channel n's state (R106, R121, R128, R135, R149, R150, R153, R156). -/
def onChannel (n : Fin 4) (previous new : ChState) (s : State) : State :=
  let s1 := isoOnChannel n previous new s
  let s2 := scraperRole (if new = .down then headDown n s1 else headDemand n s1)
  let s3 := if new = .falling then targetFell n s2 else s2
  let retry : List Signal :=
    match s3.csq.plan with
    | some p => if p.tgt = some n then [.raiseRetry .busy] else []
    | none => []
  emit ([.sequencerDerive, .raiseRetry .collector] ++ retry ++ [.sequencerRun, .scraperEval]) s3

/-- R26: what the blocks do with a change of the CURRENT record (R72, R128, R149, R156, R159). -/
def onCurrent (s : State) : State :=
  let inZone := match s.currentRec with | some { stretch := .lowerZone _, .. } => true | _ => false
  emit [.raiseRetry .zone, .scraperEval] (iceOnCurrent (if inZone then zoneLowering s else s))

/-- R89: what the blocks do with a change of an actuator's confirmed position (R72, R102, R123, R126, R128, R130, R156,
R165 to R168). -/
def onConfirmed (a : Actuator) (previous : Confirmed) (s : State) : State :=
  match a with
  | .es =>
    emit [.raiseRetry .earth, .scraperEval]
      (if previous = .opened ∧ (s.act .es).confirmed ≠ .opened then earthLowering s else s)
  | .mb | .rc => emit [.linkRun, .sequencerRun] s
  | .ka | .kd | .ta | .td => emit [.procRun, .sequencerRun] s
  | .is0 | .is1 | .is2 | .is3 => emit [.linkRun, .sequencerRun] s

/-- What the blocks do with a change of an actuator's commanded position (R106, R132, R165). -/
def onCommanded (a : Actuator) (s : State) : State :=
  match a with
  | .is0 | .is1 | .is2 | .is3 => emit [.linkRun] (isoRelease s)
  | .mb => emit [.sequencerRun] s
  | _ => s

/-- R92: what the blocks do with a fault of an actuator (R103, R123, R130, R166). -/
def onFault (a : Actuator) (s : State) : State := emit [.sequencerRun, .linkRun] (onIsoFault a (procOnFault a s))

/-- What each change does in the blocks it is handed to. -/
def handle (g : Signal) (s : State) : State :=
  match g with
  | .mapRound => mapRound s
  | .rangeSet => rangeProbes s
  | .moved => mapMoved s
  | .sequencerMoved => waitingTest (openingTest s)
  | .openingTest => openingTest s
  | .mark => arcEvaluateAll s
  | .currentChanged => onCurrent s
  | .listChanged cleared => onListChange cleared s
  | .lineChanged => emit [.sequencerRun] s
  | .speedUpdated => emit [.scraperEval] (recomputeSetpoints (fun _ => true) s)
  | .leadingEnd => emit [.sequencerDerive, .scraperEval] s
  | .reversal => onReversal s
  | .chChanged n previous new => onChannel n previous new s
  | .latchSet n => emit [.sequencerDerive, .scraperEval] (targetLatched n s)
  | .latchCleared _ => emit [.sequencerDerive, .scraperEval] s
  | .suspectChanged n => emit [.scraperEval] (headDemand n s)
  | .actConfirmed a previous => onConfirmed a previous s
  | .actCommanded a => onCommanded a s
  | .actFaulted a => onFault a s
  | .breakerFail => breakerFailLowering s
  | .issuePending a => issuePending a s
  | .selectedChanged => emit [.sequencerDerive, .sequencerRun] s
  | .procRun => procRun s
  | .procDone c => onProcDone c s
  | .procFailed c _ => onProcFailed c s
  | .stageEntered st => emit [.linkRun, .scraperEval] (if st = .waiting then waitingTest s else s)
  | .sequencerRun => sequencerRun s
  | .sequencerArm => armTest s
  | .sequencerDerive => rederive s
  | .sequencerFail r => failRunning r s
  | .raiseRetry b => raiseRetry b s
  | .scraperEval => scraperEval s
  | .linkChanged => emit [.sequencerDerive, .raiseRetry .peer, .sequencerRun] s
  | .linkRun => linkRun s
  | .modeChanged => emit [.linkRun, .scraperEval] (onMode s)
  | .rerate => s

/-- One hand-off: the oldest change is acted on, what is derived is brought up to date, and the changes this made are acted
on before the rest. -/
def settleStep (s : State) : State :=
  match s.work with
  | [] => s
  | g :: rest =>
    let t := refresh (handle g (s.withWork []))
    t.withWork (t.work ++ rest)

/-- At most n hand-offs. -/
def settleN : Nat → State → State
  | 0, s => s
  | n + 1, s => match s.work with | [] => s | _ :: _ => settleN n (settleStep s)

/-- The most hand-offs one command can bring about in this model (log entry 2). -/
def settleBound : Nat := 1000

/-- Every change handed on is acted on. -/
def settle (s : State) : State := settleN settleBound s

end Sys2Proof.Machine
end

