-- ==== Sys2Proof/Machine/Command.lean ====
section
/-! DEFINITION. How a command is carried out and answered (R190 to R192), shared by every row that is a command of the
vehicle computer. -/

namespace Sys2Proof.Machine

/-- R190, R192: a command taken is carried out whole; its answer is made, and the work it started goes on after that. -/
def carry (kind tag : Byte) (f : State → State × Answer) (s : State) : State :=
  let r := f (s.withVlp { s.vlp with carrying := true })
  settle (makeAnswer kind tag r.2 r.1)

/-- R190: a command that cannot be taken waits, or is discarded with overrun when one waits already. -/
def holdCommand (r : Received) (s : State) : State :=
  match s.vlp.waiting with
  | none => s.withVlp { s.vlp with waiting := some r }
  | some _ => s.withVlp { s.vlp with overrun := true }

/-- A command row: the command is carried out with tag 0, or waits while a warm reset is pending (R190, log entry 8). -/
def asCommand (kind : Byte) (i : Instr) (f : State → State × Answer) (s : State) : Host.Outcome State Fault Refusal :=
  if s.vlp.resetPending then .next (holdCommand { kind := kind, tag := 0, content := .command i } s)
  else .next (carry kind 0 f s)

/-- A command refused RANGE for the field at `offset` of its payload (R191). -/
def outOfRange (offset : Nat) (s : State) : State × Answer := (s, .refused .range offset)

/-- The channel of a channel field. -/
def channelOf (b : Byte) : Option (Fin 4) := if h : b.toNat < 4 then some ⟨b.toNat, h⟩ else none

/-- A command that names a channel in its first byte: another number is refused RANGE. -/
def onChannelByte (b : Byte) (f : Fin 4 → State → State × Answer) (s : State) : State × Answer :=
  match channelOf b with
  | some n => f n s
  | none => outOfRange 0 s

/-- The system of a code 0 to 3. -/
def systemOf (b : Byte) : Option System :=
  match b.toNat with
  | 0 => some .ac25 | 1 => some .ac15 | 2 => some .dc3 | 3 => some .dc15 | _ => none

end Sys2Proof.Machine
end

