-- ==== Sys2Proof/Machine/Changeover.lean ====
section
/-! DEFINITION. The Changeover Sequencer's rows (chapter 6): its two timeouts and the commands CHNG, CABT and CACK. -/

namespace Sys2Proof.Machine

/-- PEER_WAIT_TIMEOUT (R124). -/
def execPeerWaitTimeout (s : State) : Host.Outcome State Fault Refusal :=
  if s.csq.stage = .lowering ∧ s.csq.timer.isSome then .next (settle (failPlan .peer s)) else .next s

/-- PROVE_TIMEOUT (R131). -/
def execProveTimeout (s : State) : Host.Outcome State Fault Refusal :=
  if s.csq.stage = .proving ∧ s.csq.timer.isSome then .next (settle (failPlan .timeoutProve s)) else .next s

/-- CHNG (R139). -/
def cmdChng (target : Byte) (s : State) : State × Answer :=
  match systemOf target with
  | none => outOfRange 0 s
  | some x =>
    if s.csq.stage ≠ .idle then (s, .refused .busy 0)
    else if 50 < s.pos.speed then (s, .refused .interlock 1)
    else if (channels.all fun n => !s.allows n x) then (s, .refused .interlock 2)
    else (armPlan (s.manualPlan x) s, .accepted)

def execChng (target : Byte) (s : State) : Host.Outcome State Fault Refusal :=
  asCommand 0x30 (.chng target) (cmdChng target) s

/-- R140: a route plan's gap becomes the declined gap. -/
def declineGap (s : State) : State :=
  match s.csq.plan.bind (·.gap) with
  | some g => s.withCsq { s.csq with declined := some g }
  | none => s

/-- CABT (R140). -/
def cmdCabt (s : State) : State × Answer :=
  if s.csq.stage = .armed then (emit [.sequencerArm] (toIdle (declineGap s)), .done)
  else if s.csq.stage.running then (failPlan .abort (declineGap s), .done)
  else (s, .done)

def execCabt (s : State) : Host.Outcome State Fault Refusal := asCommand 0x31 .cabt cmdCabt s

/-- CACK (R141). -/
def cmdCack (s : State) : State × Answer :=
  if s.csq.stage = .failed then
    let code := match s.csq.failReason with | some r => r.code | none => 0xFF
    (emit [.sequencerArm] (toIdle (updateReasons (fun x => { x with seqfail := false }) s)), .ok .done (be1 code))
  else (s, .refused .busy 0)

def execCack (s : State) : Host.Outcome State Fault Refusal := asCommand 0x32 .cack cmdCack s

end Sys2Proof.Machine
end

