-- ==== Sys2Proof/Machine/Channels.lean ====
section
/-! DEFINITION. The Pantograph Channels' rows (chapter 4): the commands RAIS, LOWR, ARMC, SNAP, ISOL and FTAB, the channel
timers, and the inputs HOUSED, CONTACT, STRIP, EMERG and AIROK. -/

namespace Sys2Proof.Machine

open Config

/-- The channel is the old or target channel of a plan in OPENING to CLOSING (R71, R82). -/
def State.planHolds (s : State) (n : Fin 4) : Bool :=
  s.csq.stage.running &&
  (match s.csq.plan with | some p => decide (p.old = some n) || decide (p.tgt = some n) | none => false)

/-! ## Raising (4.4) -/

/-- R64: the first condition, in table order, that refuses RAIS on a DOWN channel. -/
def raisBar (n : Fin 4) (s : State) : Option RaiseBar :=
  match collectorBar n s with
  | some b => some b
  | none => if s.csq.stage.running then some .sequencer else none

/-- RAIS (R64). -/
def cmdRais (n : Fin 4) (s : State) : State × Answer :=
  if (s.ch n).state ≠ .down then (s, .refused .busy 0)
  else
    match raisBar n s with
    | some b => (s, .refused .interlock b.order)
    | none => (startRaise n .collector s, .accepted)

def execRais (channel : Byte) (s : State) : Host.Outcome State Fault Refusal :=
  asCommand 0x20 (.rais channel) (onChannelByte channel cmdRais) s

/-- STROKE_PRESS_END (R67). -/
def execStrokePressEnd (n : Fin 4) (s : State) : Host.Outcome State Fault Refusal :=
  let c := s.ch n
  match c.state, c.stroke with
  | .stroking, some k =>
    if k.press then
      .next (s.setCh n { c with stroke := some { k with press := false, left := units100 (s.par 25) }, setpoint := 0 })
    else .next s
  | _, _ => .next s

/-- STROKE_PAUSE_END (R67, R68). -/
def execStrokePauseEnd (n : Fin 4) (s : State) : Host.Outcome State Fault Refusal :=
  let c := s.ch n
  match c.state, c.stroke with
  | .stroking, some k =>
    if k.press then .next s
    else if s.par 23 ≤ k.number then .next (settle (enterRising n s))
    else .next (s.setCh n (pressStroke (k.number + 1) s c))
  | _, _ => .next s

/-- RISE_TIMEOUT (R68, R74). -/
def execRiseTimeout (n : Fin 4) (s : State) : Host.Outcome State Fault Refusal :=
  if (s.ch n).state = .rising ∧ (s.ch n).rise.isSome then .next (settle (protect n .riseTimeout true true s)) else .next s

/-! ## Contact (4.5) -/

/-- The CONTACT input of channel n takes a level. -/
def setContact (n : Fin 4) (b : Bool) (s : State) : State :=
  s.withInp { s.inp with contact := s.inp.contact.set n.val b n.isLt }

/-- R69: the return of CONTACT ends a loss with an arc record and an arc evaluation. -/
def endLoss (n : Fin 4) (x : ContactLoss) (s : State) : State :=
  let c := s.ch n
  arcEvaluate n (s.setCh n { c with contact := none, arcs := pushArc { m := x.m, ms := max 1 (x.run / 4) } c.arcs })

/-- CONTACT_ASSERT (R67, R68, R69). -/
def execContactAssert (n : Fin 4) (s : State) : Host.Outcome State Fault Refusal :=
  let s1 := setContact n true s
  match (s.ch n).state, (s.ch n).contact with
  | .stroking, _ => .next (settle (enterUp n s1))
  | .rising, _ => .next (settle (enterUp n s1))
  | .up, some x => .next (settle (endLoss n x s1))
  | _, _ => .next s1

/-- CONTACT_LOSS (R69). -/
def execContactLoss (n : Fin 4) (s : State) : Host.Outcome State Fault Refusal :=
  let s1 := setContact n false s
  match (s.ch n).state, (s.ch n).contact with
  | .up, none =>
    .next (s1.setCh n { s.ch n with contact := some { m := s.pos.m, limit := ms (s.par 46), run := 0 } })
  | _, _ => .next s1

/-- CONTACT_TIMEOUT (R69, R74). -/
def execContactTimeout (n : Fin 4) (s : State) : Host.Outcome State Fault Refusal :=
  if (s.ch n).state = .up ∧ (s.ch n).contact.isSome then .next (settle (protect n .contactLost true true s)) else .next s

/-! ## Lowering (4.6) -/

/-- R71: a LOWR accepted for the scraper sets scrape inhibit. -/
def inhibitScraper (n : Fin 4) (s : State) : State :=
  if (s.ch n).role = .scraper then emit [.scraperEval] (s.withIcu { s.icu with inhibit := true }) else s

/-- LOWR (R71). -/
def cmdLowr (n : Fin 4) (s : State) : State × Answer :=
  if s.planHolds n then (s, .refused .busy 0)
  else
    match (s.ch n).state with
    | .stroking | .rising | .up => (inhibitScraper n (startFall n .command s), .accepted)
    | .falling => (inhibitScraper n s, .accepted)
    | _ => (s, .done)

def execLowr (channel : Byte) (s : State) : Host.Outcome State Fault Refusal :=
  asCommand 0x21 (.lowr channel) (onChannelByte channel cmdLowr) s

/-- FALL_TIMEOUT (R73). -/
def execFallTimeout (n : Fin 4) (s : State) : Host.Outcome State Fault Refusal :=
  if (s.ch n).state = .falling ∧ (s.ch n).fall.isSome then .next (settle (reachStuck n s)) else .next s

/-- The HOUSED input of channel n takes a level. -/
def setHoused (n : Fin 4) (b : Bool) (s : State) : State :=
  s.withInp { s.inp with housed := s.inp.housed.set n.val b n.isLt }

/-- HOUSED_ASSERT (R73). -/
def execHousedAssert (n : Fin 4) (s : State) : Host.Outcome State Fault Refusal :=
  let s1 := setHoused n true s
  if (s.ch n).state = .falling ∨ (s.ch n).state = .stuck then .next (settle (reachDown n s1)) else .next s1

/-! ## Protective drops (4.7) -/

/-- HOUSED_LOSS (R77). -/
def execHousedLoss (n : Fin 4) (s : State) : Host.Outcome State Fault Refusal :=
  let s1 := setHoused n false s
  if (s.ch n).state = .down then .next (settle (protect n .uncommanded true true s1)) else .next s1

/-- The STRIP input of channel n takes a level. -/
def setStrip (n : Fin 4) (b : Bool) (s : State) : State :=
  s.withInp { s.inp with strip := s.inp.strip.set n.val b n.isLt }

/-- STRIP_ASSERT (R75). -/
def execStripAssert (n : Fin 4) (s : State) : Host.Outcome State Fault Refusal :=
  .next (settle (stripBreach n (setStrip n true s)))

/-- STRIP_RELEASE (R75, R80). -/
def execStripRelease (n : Fin 4) (s : State) : Host.Outcome State Fault Refusal := .next (setStrip n false s)

/-- EMERG_ASSERT (R76, R108, R136). DESIGN CHOICE (log 43): the channels are taken in order 0 to 3, before the sequencer's own
failure. -/
def execEmergAssert (s : State) : Host.Outcome State Fault Refusal :=
  let s1 := emit [.rerate] (s.withInp { s.inp with emerg := true })
  .next (settle (failRunning .emerg (channels.foldl (fun t n => emergLower n t) s1)))

/-- EMERG_RELEASE (R76, R108, R136). -/
def execEmergRelease (s : State) : Host.Outcome State Fault Refusal :=
  .next (settle (emit [.rerate] (s.withInp { s.inp with emerg := false })))

/-- AIROK_CHANGE (R128, R156). -/
def execAirokChange (level : Bool) (s : State) : Host.Outcome State Fault Refusal :=
  if s.inp.airok = level then .next s
  else .next (settle (emit [.raiseRetry .air, .scraperEval] (s.withInp { s.inp with airok := level })))

/-- ARMC (R80). -/
def cmdArmc (n : Fin 4) (s : State) : State × Answer :=
  let c := s.ch n
  if !c.state.stowed then (s, .refused .busy 0)
  else if c.latch.isNone then (s, .done)
  else if s.inp.strip.get n || s.inp.emerg then (s, .refused .interlock 0)
  else
    (emit [.latchCleared n]
      (s.setCh n { c with latch := none, snapshot := c.snapshot.map fun x => { x with consumed := true } }), .done)

def execArmc (channel : Byte) (s : State) : Host.Outcome State Fault Refusal :=
  asCommand 0x22 (.armc channel) (onChannelByte channel cmdArmc) s

/-- The latch byte of SNAP: bit 7 set and the cause, 0 when clear (10.9). -/
def latchByte : Option Cause → Nat
  | some c => 128 + c.code
  | none => 0

/-- The snapshot fields of SNAP (10.9); all 0 when none is held. -/
def snapBytes : Option Snapshot → List Byte
  | none => List.replicate 14 0
  | some x =>
    be1 (1 + 2 * bit x.consumed + 4 * bit x.overwrote) ++ be1 x.cause.code ++ be4 x.m ++ be2 x.speed ++ be1 x.line.code ++
    be1 x.prior.code ++ be1 x.role.code ++ be2 x.setpoint ++ be1 x.breaker.code

/-- The stage field of SNAP, 0 when no snapshot is held. -/
def snapStage : Option Snapshot → List Byte
  | none => be1 0
  | some x => be1 x.stage.code

/-- SNAP (R81). -/
def cmdSnap (n : Fin 4) (s : State) : State × Answer :=
  let c := s.ch n
  (s, .ok .done (be1 (latchByte c.latch) ++ snapBytes c.snapshot ++ snapStage c.snapshot))

def execSnap (channel : Byte) (s : State) : Host.Outcome State Fault Refusal :=
  asCommand 0x25 (.snap channel) (onChannelByte channel cmdSnap) s

/-! ## Isolation (4.8) -/

/-- ISOL ISOLATE (R82). -/
def cmdIsolate (n : Fin 4) (s : State) : State × Answer :=
  if s.planHolds n then (s, .refused .busy 0)
  else
    match (s.ch n).state with
    | .down => (chEnter n { s.ch n with state := .isolated } .command s, .done)
    | .isolated => (s, .done)
    | _ => (s, .refused .busy 0)

def execIsolIsolate (channel : Byte) (s : State) : Host.Outcome State Fault Refusal :=
  asCommand 0x23 (.isolIsolate channel) (onChannelByte channel cmdIsolate) s

/-- ISOL RESTORE (R83). -/
def cmdRestore (n : Fin 4) (s : State) : State × Answer :=
  match (s.ch n).state with
  | .isolated =>
    if s.inp.housed.get n then (chEnter n { s.ch n with state := .down } .command s, .done) else (s, .refused .interlock 0)
  | .down => (s, .done)
  | _ => (s, .refused .busy 0)

def execIsolRestore (channel : Byte) (s : State) : Host.Outcome State Fault Refusal :=
  asCommand 0x23 (.isolRestore channel) (onChannelByte channel cmdRestore) s

/-! ## Force tables (4.9) -/

/-- R85: the first speed above 400 from the point whose speed is at byte `o` on. -/
def speedAbove : Nat → List RawPoint → Option Nat
  | _, [] => none
  | o, p :: rest => if 400 < p.speed.toNat then some o else speedAbove (o + 4) rest

/-- R85: the first speed, from the point whose speed is at byte `o` on, that is not above the speed `v` of the point before
it. -/
def speedFalls : Nat → Nat → List RawPoint → Option Nat
  | _, _, [] => none
  | o, v, p :: rest => if p.speed.toNat ≤ v then some o else speedFalls (o + 4) p.speed.toNat rest

/-- R85: the speed a RANGE refusal names: a speed above 400 before one that does not ascend, the order in which R85 names
the two checks, and of each the first point of the table. The rule gives no order (log entry 16). -/
def badSpeed (l : List RawPoint) : Option Nat :=
  speedAbove 1 l <|> (match l with | [] => none | p :: rest => speedFalls 5 p.speed.toNat rest)

/-- R85: a point with its force taken as at most 400. -/
def forcePoint (p : RawPoint) : ForcePoint := { speed := p.speed.toNat, force := min 400 p.force.toNat }

/-- FTAB (R85). -/
def cmdFtab (headType : Byte) (points : Vector RawPoint 8) (s : State) : State × Answer :=
  if 1 < headType.toNat then outOfRange 0 s
  else
    match badSpeed points.toList with
    | some o => outOfRange o s
    | none =>
      let t := points.map forcePoint
      let wide := decide (headType.toNat = 1)
      let s1 := s.withFtabs (if wide then { s.ftabs with wide := t } else { s.ftabs with narrow := t })
      let s2 := recomputeSetpoints (fun n => decide (s.head n = if wide then .wide else .narrow)) s1
      (s2, .ok (if points.toList.any fun p => decide (400 < p.force.toNat) then .clamped else .done) [])

def execFtab (headType : Byte) (points : Vector RawPoint 8) (s : State) : Host.Outcome State Fault Refusal :=
  asCommand 0x24 (.ftab headType points) (cmdFtab headType points) s

end Sys2Proof.Machine
end

