-- ==== Sys2Proof/Machine/Classifier.lean ====
section
/-! DEFINITION. The Line Classifier's rows (chapter 3): samples, sample periods and window ends. -/

namespace Sys2Proof.Machine

open Config

/-! ## Samples (3.2, 3.3) -/

/-- R46: the crossing detector; the flag tells a counted crossing. -/
def crossStep (h : Int) (x : Cross) (s : Int) : Cross × Bool :=
  if h ≤ s then (.pos, decide (x = .neg))
  else if s ≤ -h then (.neg, decide (x = .pos))
  else (x, false)

/-- R45: a sample at a clip limit. -/
def clipped (s : Int) : Bool := decide (s = 32767) || decide (s = -32768)

/-- R43, R45, R46: a delivered sample; a period keeps its first. -/
def Lcl.deliver (h : Int) (v : Int) (l : Lcl) : Lcl :=
  if l.sampled then l
  else
    let x := crossStep h l.cross v
    { l with
      sampled := true
      s1 := l.s1 + v
      s2 := l.s2 + (v * v).toNat
      c := l.c + bit (clipped v)
      cross := x.1
      z := l.z + bit x.2 }

/-! ## Figures and classification (3.5, 3.6) -/

/-- The floor of the square root, bit by bit from bit `k`, starting from the root `r` found so far. -/
def isqrtFrom (n : Nat) : Nat → Nat → Nat
  | 0, r => r
  | k + 1, r => if (r + 2 ^ k) * (r + 2 ^ k) ≤ n then isqrtFrom n k (r + 2 ^ k) else isqrtFrom n k r

/-- R48: isqrt, the floor of the exact square root. -/
def isqrt (n : Nat) : Nat := isqrtFrom n (n.log2 / 2 + 1) 0

/-- R48: the figures of a window. -/
structure Figures where
  mean : Int
  r : Nat
  rac : Nat
  deriving DecidableEq, Repr

/-- R48: the figures from the sums. -/
def figures (s1 : Int) (s2 : Nat) : Figures :=
  let mean := Int.tdiv s1 960
  let q := s2 / 960
  { mean := mean, r := isqrt q, rac := isqrt ((q : Int) - mean * mean).toNat }

/-- R50: the DC bands. -/
def dcBand (mean : Nat) (rac z : Nat) : WinResult :=
  if 2250 < mean then .over
  else if z ≤ 2 ∧ rac ≤ mean / 8 then
    if mean ≤ 975 then .sys .dc15
    else if mean < 1000 then .uncertain
    else if mean ≤ 1950 then .sys .dc3
    else .uncertain
  else .uncertain

/-- R51: the AC bands. -/
def acBand (rac z : Nat) : WinResult :=
  if 15500 < rac then .over
  else if 22 ≤ z ∧ z ≤ 26 ∧ 8500 ≤ rac ∧ rac ≤ 14500 then .sys .ac25
  else if 7 ≤ z ∧ z ≤ 9 ∧ 5500 ≤ rac ∧ rac ≤ 9000 then .sys .ac15
  else .uncertain

/-- R49: the classification of a window that is not missing. -/
def classify (deadLevel : Nat) (f : Figures) (z c : Nat) : WinResult :=
  if 4 ≤ c then .over
  else if f.r < deadLevel then .dead
  else if f.mean ≤ -500 then .uncertain
  else if 500 ≤ f.mean then dcBand f.mean.toNat f.rac z
  else acBand f.rac z

/-- R47 to R51: the record of the window that ends. -/
def Lcl.windowRec (deadLevel : Nat) (l : Lcl) : WindowRec :=
  if l.missing then { result := .uncertain, mean := 0, rac := 0, z := 0, c := 0, missing := true }
  else
    let f := figures l.s1 l.s2
    { result := classify deadLevel f l.z l.c, mean := f.mean, rac := f.rac, z := l.z, c := l.c, missing := false }

/-! ## Confirmation (3.7) -/

/-- R53: the confirm threshold of a candidate. -/
def threshold (p05 p06 : Nat) : WinResult → Nat
  | .dead => p06
  | .over => 1
  | _ => p05

/-- R53: the line state a result confirms. -/
def WinResult.confirms : WinResult → LineState
  | .sys x => .sys x
  | .dead => .dead
  | .over => .over
  | .uncertain => .unknown

/-- R52: candidate and streak after a window's result. -/
def Lcl.streakAfter (l : Lcl) (r : WinResult) : Nat := if l.candidate = some r then min 15 (l.streak + 1) else 1

/-- R44, R47, R52, R53: the classifier after a window with record w. -/
def Lcl.finish (p05 p06 : Nat) (w : WindowRec) (l : Lcl) : Lcl :=
  let k := l.streakAfter w.result
  let x := if l.missing then l.crossStart else l.cross
  { count := 0, sampled := false, endDue := false, s1 := 0, s2 := 0, c := 0, z := 0, missing := false
    cross := x, crossStart := x, last := some w, candidate := some w.result, streak := k
    line := if threshold p05 p06 w.result ≤ k then w.result.confirms else l.line }

/-- R44, R53, R54: a window ends; a change of the line state raises LINE_CHANGE and is handed on. -/
def endWindow (s : State) : State :=
  let w := s.lcl.windowRec (s.par 7)
  let l := s.lcl.finish (s.par 5) (s.par 6) w
  let s1 := s.withLcl l
  if l.line = s.lcl.line then s1 else emit [.lineChanged] (raise (.lineChange s.lcl.line l.line w) s1)

/-- R44: the evaluation of a finished window comes before anything of the next (log entry 6). -/
def overdueWindow (s : State) : State := if s.lcl.endDue then settle (endWindow s) else s

/-- SAMPLE_RECEIVE (R43, R45, R46). -/
def execSampleReceive (sample : Half) (s : State) : Host.Outcome State Fault Refusal :=
  let s1 := overdueWindow s
  .next (s1.withLcl (s1.lcl.deliver (s1.par 8) sample.toInt))

/-- R43: a sample period ends. -/
def Lcl.periodEnd (l : Lcl) : Lcl :=
  let last := decide (windowPeriods ≤ l.count + 1)
  { l with
    missing := l.missing || !l.sampled
    sampled := false
    count := if last then l.count else l.count + 1
    endDue := last }

/-- SAMPLE_PERIOD_END (R43). -/
def execSamplePeriodEnd (s : State) : Host.Outcome State Fault Refusal :=
  let s1 := overdueWindow s
  .next (s1.withLcl s1.lcl.periodEnd)

/-- WINDOW_END (R44, R47 to R54): the window whose 960th period has ended is evaluated. Given while the 960th period is in
course, the row is that period's end too; before it no window ends (R44, R59; log entry 6). -/
def execWindowEnd (s : State) : Host.Outcome State Fault Refusal :=
  if s.lcl.endDue then .next (settle (endWindow s))
  else if s.lcl.periodEnd.endDue then .next (settle (endWindow (s.withLcl s.lcl.periodEnd)))
  else .next s

end Sys2Proof.Machine
end

