-- ==== Sys2Proof/Machine/Events.lean ====
section
/-! DEFINITION. The Event Router's rows (chapter 9): the pulse timers and the commands EVRT and SLAK. -/

namespace Sys2Proof.Machine

open Config

/-- A signal line replaced. -/
def setLine (i : Fin 3) (l : SignalLine) (s : State) : State :=
  s.withEvr { s.evr with lines := s.evr.lines.set i.val l i.isLt }

/-- PULSE_END (R179). -/
def execPulseEnd (i : Fin 3) (s : State) : Host.Outcome State Fault Refusal :=
  let l := s.evr.lines.get i
  if !l.latch && l.timer.isSome then .next (setLine i { l with active := false, timer := none } s) else .next s

/-- A first cause, 0xFF for none. -/
def causeCode : Option Nat → Nat
  | some n => n
  | none => 0xFF

/-- The answer fields of EVRT for an event (10.9); the fields an event has not are 0. -/
def RouteEntry.bytes (r : RouteEntry) : List Byte := be1 (bit r.notify) ++ be1 r.mask.toNat ++ be2 0 ++ be1 0 ++ be1 0

/-- The answer fields of EVRT for a line; the mask is 0. DESIGN CHOICE (log 37): the line state is 0 INACTIVE, 1 ACTIVE. -/
def SignalLine.bytes (l : SignalLine) : List Byte :=
  be1 (bit l.latch) ++ be1 0 ++ be2 l.length ++ be1 (bit l.active) ++ be1 (causeCode l.first)

/-- EVRT READ (R178). -/
def cmdEvrtRead (target number : Byte) (s : State) : State × Answer :=
  match target.toNat with
  | 0 => if h : number.toNat < 24 then (s, .ok .done (s.evr.routes.get ⟨number.toNat, h⟩).bytes) else outOfRange 2 s
  | 1 => if h : number.toNat < 3 then (s, .ok .done (s.evr.lines.get ⟨number.toNat, h⟩).bytes) else outOfRange 2 s
  | _ => outOfRange 1 s

def execEvrtRead (target number : Byte) (s : State) : Host.Outcome State Fault Refusal :=
  asCommand 0x06 (.evrtRead target number) (cmdEvrtRead target number) s

/-- EVRT WRITE to an event (R178). DESIGN CHOICE (log 37): bit k of the mask byte names SLk; bits 3 to 7 name another line
and are refused RANGE. -/
def cmdEvrtWriteEvent (number notify mask : Byte) (s : State) : State × Answer :=
  if h : number.toNat < 24 then
    if 8 ≤ mask.toNat then outOfRange 4 s
    else
      let r : RouteEntry := { notify := decide (notify ≠ 0), mask := BitVec.ofNat 3 mask.toNat }
      (s.withEvr { s.evr with routes := s.evr.routes.set number.toNat r h }, .ok .done r.bytes)
  else outOfRange 2 s

def execEvrtWriteEvent (number notify mask : Byte) (s : State) : Host.Outcome State Fault Refusal :=
  asCommand 0x06 (.evrtWriteEvent number notify mask) (cmdEvrtWriteEvent number notify mask) s

/-- R178: a pulse length taken into 100..2,000 ms. -/
def clampLength (n : Nat) : Nat := max 100 (min 2000 n)

/-- EVRT WRITE to a line (R178). -/
def cmdEvrtWriteLine (number mode : Byte) (length : Half) (s : State) : State × Answer :=
  if h : number.toNat < 3 then
    if 1 < mode.toNat then outOfRange 3 s
    else
      let n := clampLength length.toNat
      let l : SignalLine :=
        { latch := decide (mode.toNat = 1), length := n, active := false, timer := none, first := none }
      (setLine ⟨number.toNat, h⟩ l s, .ok (if n = length.toNat then .done else .clamped) l.bytes)
  else outOfRange 2 s

def execEvrtWriteLine (number mode : Byte) (length : Half) (s : State) : Host.Outcome State Fault Refusal :=
  asCommand 0x06 (.evrtWriteLine number mode length) (cmdEvrtWriteLine number mode length) s

/-- R181: whether SLAK clears a line. -/
def SignalLine.acked (mask : Byte) (i : Fin 3) (l : SignalLine) : Bool := mask.getLsbD i.val && l.latch

/-- R181: a line after SLAK. -/
def SignalLine.afterSlak (mask : Byte) (i : Fin 3) (l : SignalLine) : SignalLine :=
  if l.acked mask i then { l with active := false, first := none } else l

/-- SLAK (R181). -/
def cmdSlak (mask : Byte) (s : State) : State × Answer :=
  if 8 ≤ mask.toNat then outOfRange 0 s
  else
    let old (i : Fin 3) : SignalLine := s.evr.lines.get i
    let new (i : Fin 3) : SignalLine := (old i).afterSlak mask i
    let cleared (i : Fin 3) : List Byte := be1 (if (old i).acked mask i then causeCode (old i).first else 0xFF)
    (s.withEvr { s.evr with lines := #v[new 0, new 1, new 2] },
     .ok .done (be1 (bit (new 0).active + 2 * bit (new 1).active + 4 * bit (new 2).active) ++ cleared 0 ++ cleared 1 ++ cleared 2))

def execSlak (mask : Byte) (s : State) : Host.Outcome State Fault Refusal := asCommand 0x07 (.slak mask) (cmdSlak mask) s

end Sys2Proof.Machine
end

