-- ==== Sys2Proof/Machine/IceClearing.lean ====
section
/-! DEFINITION. The Ice Clearing Unit's rows (chapter 7): the heaters' seconds and the commands HEAT, FRST and SCRP. -/

namespace Sys2Proof.Machine

/-- HEATER_SECOND (R148, R151). -/
def execHeaterSecond (h : Fin 6) (s : State) : Host.Outcome State Fault Refusal :=
  if s.icu.grant.contains h then
    let s1 := s.withIcu { s.icu with progress := s.icu.progress.set h.val 0 h.isLt }
    .next (setHeatList (heatSecond s.icu.frost h s.icu.list) s1)
  else .next s

/-- The answer fields of HEAT for a heater (10.9). -/
def heatFields (h : Fin 6) (s : State) : List Byte :=
  let left (o : HeatOrigin) : Nat := match findHeat h o s.icu.list with | some e => e.remaining | none => 0
  be1 (bit (s.icu.grant.contains h)) ++ be2 (left .host) ++ be2 (left .auto)

/-- HEAT (R146). -/
def cmdHeat (heater priority : Byte) (seconds : Half) (s : State) : State × Answer :=
  if hh : heater.toNat < 6 then
    let h : Fin 6 := ⟨heater.toNat, hh⟩
    if 4 ≤ priority.toNat then outOfRange 1 s
    else if seconds.toNat = 0 then
      let t := if (findHeat h .host s.icu.list).isSome then setHeatList (removeHeat h .host s.icu.list) s else s
      (t, .ok .done (heatFields h t))
    else
      let e : HeatEntry :=
        { heater := h, origin := .host, priority := priority.toNat, remaining := min 3600 seconds.toNat }
      let t := setHeatList (makeHeat e s.icu.list) s
      (t, .ok (if 3600 < seconds.toNat then .clamped else .done) (heatFields h t))
  else outOfRange 0 s

def execHeat (heater priority : Byte) (seconds : Half) (s : State) : Host.Outcome State Fault Refusal :=
  asCommand 0x34 (.heat heater priority seconds) (cmdHeat heater priority seconds) s

/-- R151: an insulator AUTO entry is made for a heater that has none. -/
def addInsulator (h : Fin 6) (l : List HeatEntry) : List HeatEntry :=
  if (findHeat h .auto l).isSome then l else insertHeat (insulatorEntry h) l

/-- FRST ON (R151, R152). DESIGN CHOICE (log 35): where both insulator entries are made, that of H4 arrives before that of
H5. -/
def cmdFrstOn (s : State) : State × Answer :=
  if s.icu.frost then (s, .done)
  else (setHeatList (addInsulator 5 (addInsulator 4 s.icu.list)) (s.withIcu { s.icu with frost := true }), .done)

def execFrstOn (s : State) : Host.Outcome State Fault Refusal := asCommand 0x35 .frstOn cmdFrstOn s

/-- FRST OFF (R151, R152). -/
def cmdFrstOff (s : State) : State × Answer :=
  if s.icu.frost then
    (setHeatList (removeHeat 5 .auto (removeHeat 4 .auto s.icu.list)) (s.withIcu { s.icu with frost := false }), .done)
  else (s, .done)

def execFrstOff (s : State) : Host.Outcome State Fault Refusal := asCommand 0x35 .frstOff cmdFrstOff s

/-- SCRP ON (R160). -/
def cmdScrpOn (s : State) : State × Answer :=
  (emit [.scraperEval] (s.withIcu { s.icu with scrapeEnable := true }), .done)

def execScrpOn (s : State) : Host.Outcome State Fault Refusal := asCommand 0x36 .scrpOn cmdScrpOn s

/-- SCRP OFF (R160). -/
def cmdScrpOff (s : State) : State × Answer :=
  (emit [.scraperEval] (s.withIcu { s.icu with scrapeEnable := false }), .done)

def execScrpOff (s : State) : Host.Outcome State Fault Refusal := asCommand 0x36 .scrpOff cmdScrpOff s

end Sys2Proof.Machine
end

