-- ==== Sys2Proof/Machine/Parameters.lean ====
section
/-! DEFINITION. Parameters and status (10.7, 10.8): the rows SETP, GETP and STAT. -/

namespace Sys2Proof.Machine

/-! ## Parameters -/

/-- The ranges of P01 to P46 (10.7); of an enumeration the lowest and highest code. -/
def paramRanges : List (Nat × Nat) :=
  [(500, 20000), (500, 8000), (50, 2000), (0, 500), (2, 8), (1, 8), (50, 2000), (100, 4000), (0, 15), (0, 15)] ++
  [(0, 15), (1, 15), (2, 20), (2, 20), (1, 10), (20, 200), (100, 400), (0, 100), (0, 4000), (0, 4000)] ++
  [(200, 5000), (2, 16), (1, 7), (2, 30), (2, 30), (50, 300), (0, 80), (0, 80), (0, 80), (0, 80)] ++
  [(1, 16), (1, 16), (1, 16), (1, 16), (1, 16), (1, 16), (60, 3600), (0, 1), (0, 1), (0, 2)] ++
  [(1, 10), (0, 0xF03), (0, 0xF03), (0, 0xF03), (0, 0xF03), (100, 2000)]

/-- The parameters marked STANDBY only: P01, P07, P08, P40 and P42 to P45 (10.7). -/
def standbyOnly (n : Nat) : Bool := [1, 7, 8, 40, 42, 43, 44, 45].contains n

/-- A configuration word: no bit outside bits 0, 1 and 8 to 11, and a system allowed (R60, R197). -/
def configWord (v : Nat) : Bool := decide (v % 256 < 4) && decide (1 ≤ v / 256) && decide (v / 256 ≤ 15)

/-- The channel a configuration parameter configures. -/
def configChannel : Nat → Option (Fin 4)
  | 42 => some 0 | 43 => some 1 | 44 => some 2 | 45 => some 3 | _ => none

/-- R197: an enumeration's value is one of its codes; a number passes. -/
def enumOk (n v : Nat) : Bool :=
  match n with
  | 38 => decide (v ≤ 1)
  | 39 => decide (v ≤ 1)
  | 40 => decide (v ≤ 2)
  | _ => if (configChannel n).isSome then configWord v else true

/-- R164, R60: the owning block refuses a write BUSY. -/
def writeBusy (n : Nat) (s : State) : Bool :=
  match configChannel n with
  | some c => !(s.ch c).state.stowed
  | none =>
    decide (n = 40) && decide (s.linkRole = .junior) &&
    (decide (s.rll.state = .coupling) || decide (s.rll.state = .coupled) || decide (s.rll.state = .uncoupling))

/-- R197: a number taken as the nearer limit of its range. -/
def clampParam (n v : Nat) : Nat :=
  let r := paramRanges.getD (n - 1) (0, 65535)
  max r.1 (min r.2 v)

/-- R86: F_min stays below F_max. -/
def forceOk (n v : Nat) (s : State) : Bool :=
  match n with
  | 16 => decide (v < s.par 17)
  | 17 => decide (s.par 16 < v)
  | _ => true

/-- Parameter n stored. -/
def setPar (n v : Nat) (s : State) : State := s.withParams (s.params.setIfInBounds (n - 1) v)

/-- The work a block does on a write (R197): R25, R122, R108, R84, R156, R144, R147, R164. -/
def afterWrite (n : Nat) (changed : Bool) (s : State) : State :=
  match n with
  | 2 => if changed then emit [.mapRound] s else s
  | 3 => emit [.rerate, .openingTest] s
  | 4 => emit [.rerate] s
  | 16 | 17 | 18 => recomputeSetpoints (fun _ => true) s
  | 19 | 20 | 39 => emit [.scraperEval] s
  | 27 | 28 | 29 | 30 | 31 | 32 | 33 | 34 | 35 | 36 => emit [.rerate] s
  | 40 => linkReset s
  | _ => s

/-- SETP (R197). -/
def cmdSetp (number : Byte) (value : Half) (s : State) : State × Answer :=
  let n := number.toNat
  let v := value.toNat
  if n = 0 ∨ 46 < n then outOfRange 0 s
  else if standbyOnly n && decide (s.mode = .run) then (s, .refused .mode 0)
  else if !enumOk n v then outOfRange 1 s
  else if writeBusy n s then (s, .refused .busy 0)
  else
    let w := clampParam n v
    if !forceOk n w s then outOfRange 1 s
    else
      (afterWrite n (decide (w ≠ s.par n)) (setPar n w s), .ok (if w = v then .done else .clamped) (be2 w))

def execSetp (number : Byte) (value : Half) (s : State) : Host.Outcome State Fault Refusal :=
  asCommand 0x04 (.setp number value) (cmdSetp number value) s

/-- GETP (R198). -/
def cmdGetp (number : Byte) (s : State) : State × Answer :=
  if number.toNat = 0 ∨ 46 < number.toNat then outOfRange 0 s else (s, .ok .done (be2 (s.par number.toNat)))

def execGetp (number : Byte) (s : State) : Host.Outcome State Fault Refusal :=
  asCommand 0x05 (.getp number) (cmdGetp number) s

/-! ## Status -/

/-- Two half bytes in one byte, 0xF for none in the upper one. -/
def halfBytes (low high : Nat) : List Byte := be1 (low % 16 + 16 * (high % 16))

/-- A channel's two status bytes (10.9). -/
def Channel.bytes (c : Channel) : List Byte :=
  be1 (c.state.code + 8 * c.role.code + 32 * bit c.latch.isSome + 64 * bit c.suspect + 128 * bit (c.setpoint.testBit 8)) ++
  be1 c.setpoint

/-- The CURRENT byte of the status record. -/
def currentByte : Option SectionRec → Nat
  | none => 0
  | some r =>
    r.stretch.kindCode +
    4 * (match r.stretch with | .openLine x => x.code | .lowerZone x => x.code | _ => 0) +
    16 * r.fit.code + 64 * bit r.ice + 128

/-- Bytes 1 to 7 of the status record: link, line state, selected system, reasons. -/
def statusFront (s : State) : List Byte :=
  be1 (bit (decide (s.mode = .standby)) + 2 * bit s.vlp.linkError + 4 * bit s.vlp.overrun + 8 * bit s.evr.lost +
    16 * bit s.pos.range + 32 * bit s.rmap.short + 64 * bit (decide (s.pos.dir = .descending)) +
    128 * bit (decide (s.pos.sense = .minus))) ++
  be1 s.lcl.line.code ++ be1 (match s.lcl.candidate with | some r => r.code | none => 0xFF) ++ be1 s.lcl.streak ++
  be1 (sysCode s.sgd.selected) ++ be2 s.sgd.reasons.code

/-- Bytes 8 to 18: the actuators. -/
def statusActs (s : State) : List Byte :=
  actuators.flatMap fun a => be1 (actByte (s.act a) (decide (a = .mb) && s.sgd.armed))

/-- Bytes 27 to 31: the sequencer and the heating. -/
def statusPlan (s : State) : List Byte :=
  halfBytes s.csq.stage.code (holdCode s.highestHold) ++
  halfBytes (sysCode (s.csq.plan.map (·.target))) (chanCode (s.csq.plan.bind (·.tgt))) ++ be1 s.icu.budget ++
  be1 (grantBits s.icu.grant + 64 * bit s.icu.frost + 128 * bit s.icu.inhibit) ++
  be1 (chanCode s.icu.scraper % 16 + 16 * bit s.icu.scrapeEnable)

/-- Bytes 32 to 42: position, CURRENT and the roof line. -/
def statusRoute (s : State) : List Byte :=
  be2 s.pos.route ++ be4 s.pos.m ++ be2 s.pos.speed ++ be1 (currentByte s.currentRec) ++
  be1 (s.linkRole.code + 4 * s.rll.state.code + 32 * bit s.rll.conflict) ++
  be1 (bit s.rll.rq + 2 * bit s.rll.gt + 4 * bit s.rll.cpl + 8 * bit s.inp.rqIn + 16 * bit s.inp.gtIn + 32 * bit s.inp.cplIn)

/-- Bytes 43 to 47: signal lines and notices. -/
def statusEvents (s : State) : List Byte :=
  let l (i : Fin 3) : SignalLine := s.evr.lines.get i
  let first (i : Fin 3) : List Byte := be1 (match (l i).first with | some n => n | none => 0xFF)
  be1 (bit (l 0).active + 2 * bit (l 1).active + 4 * bit (l 2).active + 8 * bit (l 0).latch + 16 * bit (l 1).latch +
    32 * bit (l 2).latch) ++
  be1 s.evr.queue.length ++ first 0 ++ first 1 ++ first 2

/-- Bytes 1 to 47 of the status record (10.9). -/
def statusRecord (s : State) : List Byte :=
  statusFront s ++ statusActs s ++ (channels.flatMap fun n => (s.ch n).bytes) ++ statusPlan s ++ statusRoute s ++ statusEvents s

/-- STAT (R199). -/
def cmdStat (s : State) : State × Answer :=
  (s.withVlp { s.vlp with linkError := false, overrun := false }, .ok .done (statusRecord s))

def execStat (s : State) : Host.Outcome State Fault Refusal := asCommand 0x01 .stat cmdStat s

end Sys2Proof.Machine
end

