-- ==== Sys2Proof/Machine/Position.lean ====
section
/-! DEFINITION. The Position Unit's rows (chapter 1): axle edges, the speed interval, fix capture and FIXP. -/

namespace Sys2Proof.Machine

open Config

/-! ## Decoding (1.2) -/

/-- What the decoder makes of a new pair of levels (R1, R2). -/
inductive Decoded where
  | same | forward | reverse | invalid
  deriving DecidableEq, Repr

/-- The place of a pair of levels in the quadrature forward order (1.2). -/
def quadPlace (a b : Bool) : Nat :=
  match a, b with
  | false, false => 0
  | true, false => 1
  | true, true => 2
  | false, true => 3

/-- R1, R2: the new pair against the phase reference. -/
def decodePair (oldA oldB a b : Bool) : Decoded :=
  match (quadPlace a b + 4 - quadPlace oldA oldB) % 4 with
  | 0 => .same
  | 1 => .forward
  | 3 => .reverse
  | _ => .invalid

/-- R3: whether a counted edge is ascending. -/
def edgeDir (sense : Sense) (forward : Bool) : Dir :=
  match sense, forward with
  | .plus, true => .ascending
  | .plus, false => .descending
  | .minus, true => .descending
  | .minus, false => .ascending

/-! ## Position arithmetic (1.3) -/

/-- What an edge did to the position. -/
inductive Moved where
  | within | metre | atLimit (upper : Bool)
  deriving DecidableEq, Repr

/-- R4, R5: one edge of length L. -/
def moveEdge (d : Dir) (l : Nat) (p : Pos) : Pos × Moved :=
  match d with
  | .ascending =>
    if p.u + l < 1000000 then ({ p with u := p.u + l }, .within)
    else if p.m < maxM then ({ p with m := p.m + 1, u := p.u + l - 1000000 }, .metre)
    else ({ p with m := maxM, u := 999999 }, .atLimit true)
  | .descending =>
    if l ≤ p.u then ({ p with u := p.u - l }, .within)
    else if 0 < p.m then ({ p with m := p.m - 1, u := p.u + 1000000 - l }, .metre)
    else ({ p with m := 0, u := 0 }, .atLimit false)

/-- R6: a change of M from `old` to `new` by one metre crosses a multiple of 100. -/
def crossesMark (old new : Nat) : Bool := decide (old / 100 ≠ new / 100)

/-- R7: the direction debounce; the flag tells a completed reversal. -/
def debounce (d : Dir) (p : Pos) : Pos × Bool :=
  if d = p.dir then ({ p with reversal := 0 }, false)
  else if p.reversal + 1 < 16 then ({ p with reversal := p.reversal + 1 }, false)
  else ({ p with dir := d, reversal := 0 }, true)

/-- R1, R4, R5: a counted edge moves the position. -/
def edgeMove (a b : Bool) (d : Dir) (s : State) : State :=
  let p := { s.pos with phaseA := a, phaseB := b, gate := min 65535 (s.pos.gate + 1) }
  let r := moveEdge d (s.par 1) p
  match r.2 with
  | .within => s.withPos r.1
  | .metre =>
    let mark : List Signal := if crossesMark s.pos.m r.1.m then [.mark] else []
    emit ([.moved] ++ mark ++ [.sequencerMoved]) (s.withPos r.1)
  | .atLimit upper =>
    if s.pos.range then s.withPos r.1
    else emit [.rangeSet] (raise (.odoRange r.1.m upper) (s.withPos { r.1 with range := true }))

/-- R7, R8: the edge is debounced; a reversal is handed on. -/
def edgeDebounce (d : Dir) (s : State) : State :=
  let r := debounce d s.pos
  let s1 := s.withPos r.1
  if r.2 then emit [.reversal, .leadingEnd, .mapRound] (raise (.dirChange d r.1.m) s1) else s1

/-- AXLE_TRANSITION (R1 to R8). -/
def execAxleTransition (a b : Bool) (s : State) : Host.Outcome State Fault Refusal :=
  let counted (forward : Bool) : State :=
    let d := edgeDir s.pos.sense forward
    settle (edgeDebounce d (settle (edgeMove a b d s)))
  match decodePair s.pos.phaseA s.pos.phaseB a b with
  | .same => .next s
  | .forward => .next (counted true)
  | .reverse => .next (counted false)
  | .invalid => .next (raise (.odoGlitch s.pos.m) (s.withPos { s.pos with phaseA := a, phaseB := b }))

/-! ## Speed (1.5) -/

/-- R9: the speed of an interval. -/
def speedOf (e l : Nat) : Nat := min 4000 (e * l * 9 / 50000)

/-- SPEED_INTERVAL_END (R9, R10). -/
def execSpeedIntervalEnd (s : State) : Host.Outcome State Fault Refusal :=
  .next (settle (emit [.speedUpdated]
    (s.withPos { s.pos with speed := speedOf s.pos.gate (s.par 1), gate := 0, gateLeft := speedInterval })))

/-! ## Fixes (1.6, 1.7) -/

/-- FIX_CAPTURE (R11). -/
def execFixCapture (s : State) : Host.Outcome State Fault Refusal :=
  let q := (s.pos.slotSeq + 1) % 256
  .next (raise (.fixCapture q s.pos.m)
    (s.withPos { s.pos with slotSeq := q, slot := some { m := s.pos.m, u := s.pos.u } }))

/-- The other direction. -/
def Dir.flip : Dir → Dir
  | .ascending => .descending
  | .descending => .ascending

/-- R14 to R16: the position after an accepted fix. -/
def fixedPos (p : Pos) (captured truePos route : Nat) (sense : Sense) : Pos :=
  let sum : Int := (p.m : Int) + truePos - captured
  { p with
    m := (max 0 (min (maxM : Int) sum)).toNat
    range := decide (sum < 0) || decide ((maxM : Int) < sum)
    route := route
    sense := sense
    dir := if sense = p.sense then p.dir else p.dir.flip
    reversal := 0
    slot := none }

/-- FIXP (R12 to R16). -/
def cmdFixp (seq : Byte) (truePos : Quad) (route : Half) (sense : Byte) (s : State) : State × Answer :=
  if maxM < truePos.toNat then outOfRange 1 s
  else if route.toNat = 0 ∨ maxRoute < route.toNat then outOfRange 5 s
  else if 1 < sense.toNat then outOfRange 7 s
  else
    match s.pos.slot with
    | none => (s, .refused .stale s.pos.slotSeq)
    | some c =>
      if seq.toNat ≠ s.pos.slotSeq then (s, .refused .stale (256 + s.pos.slotSeq))
      else
        let p := fixedPos s.pos c.m truePos.toNat route.toNat (if sense.toNat = 0 then .plus else .minus)
        let s1 := s.withPos p
        let upper := decide (c.m < truePos.toNat)
        let s2 := if p.range then raise (.odoRange p.m upper) s1 else s1
        (emit (if p.m = s.pos.m then [.mapRound] else [.mapRound, .sequencerMoved]) s2, .done)

def execFixp (seq : Byte) (truePos : Quad) (route : Half) (sense : Byte) (s : State) : Host.Outcome State Fault Refusal :=
  asCommand 0x10 (.fixp seq truePos route sense) (cmdFixp seq truePos route sense) s

end Sys2Proof.Machine
end

