-- ==== Sys2Proof/Machine/Reset.lean ====
section
/-! DEFINITION. The two resets: POWER_ON (R17, R41, R55, R87, R114, R142, R162, R175, R185, R196) and the warm reset that
follows the answer to RSTW (R18, R42, R56, R88, R114, R142, R162, R175, R186, R195). -/

namespace Sys2Proof.Machine

open Config

/-- R87, R88: a channel that is not kept ISOLATED, by its HOUSED input. -/
def Channel.afterReset (cause : Cause) (housed : Bool) (p14 : Nat) (snap : Option Snapshot) : Channel :=
  { state := if housed then .down else .falling
    role := .none
    fallCause := if housed && decide (cause = .powerOn) then none else some cause
    latch := some cause
    snapshot := snap
    setpoint := 0, stroke := none, rise := none
    fall := if housed then none else some (sec p14)
    contact := none, arcs := [], suspect := false }

/-- R114: an actuator's record after a reset, from its feedback; `previous` is the position commanded before. -/
def ActRec.afterReset (a : Actuator) (fb : Place) (travel : Bool) (settle : Nat) (previous : Place) : ActRec :=
  let commanded : Place :=
    match a with
    | .ta | .td => if travel then previous else fb
    | _ => .opened
  let moves := decide (fb ≠ commanded)
  { commanded := commanded
    confirmed := if travel || moves then .unsure else confirmedAt fb
    motion := if moves then .settling else .none
    elapsed := 0
    settle := if moves then settle else 0
    pending := none
    fault := false }

/-- R114: the actuator records after a reset of the state s, whose parameters are already those after the reset. -/
def resetActs (s : State) : Vector ActRec 11 :=
  let f (a : Actuator) : ActRec := ActRec.afterReset a (s.fb a) (s.travel a) (s.settleCount a) (s.act a).commanded
  #v[f .mb, f .ka, f .kd, f .rc, f .ta, f .td, f .es, f .is0, f .is1, f .is2, f .is3]

/-- R114: a guard timer starts for a path contactor confirmed OPEN. -/
def resetGuard (r : ActRec) (p12 : Nat) : Option Nat := if r.confirmed = .opened then some (units20 p12) else none

/-- R114: the Switchgear Drive after a reset; the reasons are recomputed once the whole part is reset. -/
def resetSgd (weld : Bool) (s : State) : Sgd :=
  let acts := resetActs s
  { acts := acts
    guardKa := resetGuard (acts.get (actNo .ka)) (s.par 12)
    guardKd := resetGuard (acts.get (actNo .kd)) (s.par 12)
    proc := none
    isoWait := none
    reasons :=
      { line := false, gap := false, seq := false, seqfail := false, emerg := false, drop := false, earth := false
        selftrip := false, hold := false, stby := false, peer := false, weld := weld }
    armed := false
    selected := none }

/-- R114: the selected system and the condition reasons after a reset, with no event. -/
def resetReasons (s : State) : State :=
  let s1 := s.withSgd { s.sgd with selected := s.selectedNow }
  s1.withSgd { s1.sgd with reasons := condReasons s1 s1.sgd.reasons }

/-- The state after power-on with the input levels and waiting commands of s. -/
def powerOnState (s : State) : State :=
  let s1 := s.withParams paramDefaults
  let ch (n : Fin 4) : Channel := Channel.afterReset .powerOn (s.inp.housed.get n) (s1.par 14) none
  resetReasons
    { inp := s.inp
      pos := Pos.powerOn s.pos.phaseA s.pos.phaseB
      rmap := Rmap.powerOn
      lcl := Lcl.initial
      chans := #v[ch 0, ch 1, ch 2, ch 3]
      ftabs := { narrow := defaultTable, wide := defaultTable }
      sgd := resetSgd false s1
      csq := Csq.initial
      icu := Icu.initial
      rll := Rll.powerOn
      evr := Evr.powerOn
      vlp := Vlp.initial
      mode := .standby
      params := paramDefaults
      pending := s.pending
      work := [] }

/-- POWER_ON (R196). -/
def execPowerOn (s : State) : Host.Outcome State Fault Refusal := .next (powerOnState s)

/-! ## Warm reset -/

/-- R18: the Position Unit after a warm reset. -/
def Pos.warm (p : Pos) : Pos := { p with reversal := 0, gate := 0, gateLeft := speedInterval }

/-- R42: a span entry after a warm reset. DEDUCED (log 22): the used flag of an entry that is not kept valid, a barred
one with its pinned flag set among them, stays as stored. -/
def SpanEntry.warm (e : SpanEntry) : SpanEntry :=
  { e with valid := e.valid && e.content.pinned, used := if e.valid && e.content.pinned then false else e.used }

/-- R88: a channel after a warm reset. -/
def Channel.warm (c : Channel) (housed : Bool) (p14 : Nat) : Channel :=
  let r := Channel.afterReset .reset housed p14 c.snapshot
  if c.state = .isolated then { r with state := .isolated, fall := none, fallCause := c.fallCause } else r

/-- R186: a signal line after a warm reset. -/
def SignalLine.warm (l : SignalLine) : SignalLine := if l.latch then l else { l with active := false, timer := none }

/-- R186: the Event Router after a warm reset. -/
def Evr.warm (v : Evr) : Evr := { v with lines := v.lines.map SignalLine.warm, queue := [], lost := false }

/-- The values every block takes at a warm reset, before the work that follows. -/
def warmState (s : State) : State :=
  let ch (n : Fin 4) : Channel := (s.ch n).warm (s.inp.housed.get n) (s.par 14)
  resetReasons
    { inp := s.inp
      pos := s.pos.warm
      rmap := { s.rmap with spans := s.rmap.spans.map SpanEntry.warm }
      lcl := Lcl.initial
      chans := #v[ch 0, ch 1, ch 2, ch 3]
      ftabs := s.ftabs
      sgd := resetSgd s.sgd.reasons.weld s
      csq := Csq.initial
      icu := Icu.initial
      rll := Rll.initial s.linkRole
      evr := s.evr.warm
      vlp := Vlp.initial
      mode := .standby
      params := s.params
      pending := s.pending
      work := [] }

/-- R195: the warm reset with the work that follows it: the sweep (R42) and the link's tests (R175). -/
def warmReset (s : State) : State := settle (emit [.mapRound, .linkRun] (conflictTest (warmState s)))

end Sys2Proof.Machine
end

