-- ==== Sys2Proof/Machine/RoofLine.lean ====
section
/-! DEFINITION. The Roof Line Link's rows (chapter 8): the three inputs and the command PEER. -/

namespace Sys2Proof.Machine

/-- GT_IN_CHANGE (R165, R167, R173). -/
def execGtInChange (level : Bool) (s : State) : Host.Outcome State Fault Refusal :=
  if s.inp.gtIn = level then .next s
  else .next (settle (emit [.linkRun] (conflictTest (s.withInp { s.inp with gtIn := level }))))

/-- RQ_IN_CHANGE (R170, R173). -/
def execRqInChange (level : Bool) (s : State) : Host.Outcome State Fault Refusal :=
  if s.inp.rqIn = level then .next s
  else .next (settle (emit [.linkRun] (conflictTest (s.withInp { s.inp with rqIn := level }))))

/-- CPL_IN_CHANGE (R124). -/
def execCplInChange (level : Bool) (s : State) : Host.Outcome State Fault Refusal :=
  if s.inp.cplIn = level then .next s
  else .next (settle (emit [.sequencerRun] (s.withInp { s.inp with cplIn := level })))

/-- R169: PEER is refused BUSY when the role is not JUNIOR or when the conflict flag is set. -/
def State.peerBusy (s : State) : Bool := decide (s.linkRole ≠ .junior) || s.rll.conflict

/-- PEER ON (R169). -/
def cmdPeerOn (s : State) : State × Answer :=
  if s.peerBusy then (s, .refused .busy 0)
  else
    match s.rll.state with
    | .detached =>
      if channels.any fun n => decide ((s.ch n).role = .collector) then (s, .refused .interlock 0)
      else (setLink { s.rll with state := .asking, rq := true } s, .done)
    | .uncoupling => (s.withRll { s.rll with detach := false }, .done)
    | _ => (s, .done)

def execPeerOn (s : State) : Host.Outcome State Fault Refusal := asCommand 0x38 .peerOn cmdPeerOn s

/-- PEER OFF (R169). -/
def cmdPeerOff (s : State) : State × Answer :=
  if s.peerBusy then (s, .refused .busy 0)
  else
    match s.rll.state with
    | .asking => (setLink { s.rll with state := .detached, rq := false } s, .done)
    | .coupling | .coupled => (setLink { s.rll with state := .uncoupling, detach := true } s, .accepted)
    | .uncoupling => (s.withRll { s.rll with detach := true }, .accepted)
    | _ => (s, .done)

def execPeerOff (s : State) : Host.Outcome State Fault Refusal := asCommand 0x38 .peerOff cmdPeerOff s

end Sys2Proof.Machine
end

