-- ==== Sys2Proof/WellFormed.lean ====
section
/-! DEFINITION. Well-formed commands: every field lies within the range the manual gives it, so that the command is not
refused RANGE for a field (R12, R19, R33 to R40, R64, R71, R80 to R85, R93, R104, R139, R146, R178, R181, R197, R198).
An ill-formed command is still a command of the block: its meaning refuses it RANGE. -/

namespace Sys2Proof

open Config

/-- The four supply codes AC25 0, AC15 1, DC3 2, DC15 3 (10.9, Codes). -/
def RawRecord.supplyCode (b : Byte) : Bool := decide (b.toNat ≤ 3)

/-- The range checks of R19 for one record: codes within their defined values and, for a gap kind, the gap's extent.
The supply of a gap kind and the gap part of the other kinds are not examined. -/
def RawRecord.inRange (r : RawRecord) : Bool :=
  decide (r.kind.toNat ≤ 3) && decide (r.headFit.toNat ≤ 2) && decide (r.ice.toNat ≤ 1) &&
  (if r.kind.toNat = 1 ∨ r.kind.toNat = 2 then
    decide (r.gapLo.toNat < r.gapHi.toNat) && decide (r.gapHi.toNat ≤ maxM) &&
    decide (r.gapHi.toNat - r.gapLo.toNat ≤ maxGapLen) && supplyCode r.supplyLo && supplyCode r.supplyHi
  else supplyCode r.supply)

/-- R33: route 1..4,095, granule 0..16,383, boundary 1..255 when given, and the records in range. -/
def SpanFields.inRange (f : SpanFields) : Bool :=
  decide (1 ≤ f.route.toNat) && decide (f.route.toNat ≤ maxRoute) && decide (f.granule.toNat ≤ maxGranule) &&
  f.head.inRange &&
  (match f.tail with
   | none => true
   | some (b, t) => decide (1 ≤ b.toNat) && t.inRange)

/-- R36: the RANGE row of the check table, apart from the slot. -/
def ZoneFields.inRange (z : ZoneFields) : Bool :=
  decide (1 ≤ z.route.toNat) && decide (z.route.toNat ≤ maxRoute) && decide (z.base.toNat ≤ maxGranule) &&
  decide (3 ≤ z.sizeCode.toNat) && decide (z.sizeCode.toNat ≤ 10) && z.record.inRange

/-- R85: speeds at most 400 and strictly ascending. -/
def speedsAscend : List RawPoint → Bool
  | [] => true
  | [p] => decide (p.speed.toNat ≤ 400)
  | p :: q :: rest => decide (p.speed.toNat ≤ 400) && decide (p.speed.toNat < q.speed.toNat) && speedsAscend (q :: rest)

/-- A kind code of a command frame that names a command (10.9, Command payloads). -/
def commandKinds : List Nat :=
  [0x01, 0x02, 0x03, 0x04, 0x05, 0x06, 0x07, 0x10, 0x11, 0x12, 0x13, 0x14, 0x15, 0x16, 0x17, 0x20, 0x21, 0x22, 0x23,
   0x24, 0x25, 0x28, 0x29, 0x2A, 0x2B, 0x2C, 0x30, 0x31, 0x32, 0x34, 0x35, 0x36, 0x38]

/-- Every field within its range. -/
def Instr.wellFormed : Instr → Bool
  | .powerOn => true
  | .axleTransition _ _ => true
  | .speedIntervalEnd => true
  | .fixCapture => true
  | .fixp _ truePos route sense =>
      decide (truePos.toNat ≤ maxM) && decide (1 ≤ route.toNat) && decide (route.toNat ≤ maxRoute) && decide (sense.toNat ≤ 1)
  | .mapSweep => true
  | .maps f => f.inRange
  | .mapd slot f => decide (slot.toNat < 40) && f.inRange
  | .mapz slot w => decide (slot.toNat < 6) && (match w with | none => true | some z => z.inRange)
  | .mapp route granule =>
      decide (1 ≤ route.toNat) && decide (route.toNat ≤ maxRoute) && decide (granule.toNat ≤ maxGranule)
  | .mapc v => decide (v.toNat ≤ 1)
  | .mapr t slot => (decide (t.toNat = 0) && decide (slot.toNat < 40)) || (decide (t.toNat = 1) && decide (slot.toNat < 6))
  | .mapq route point => decide (route.toNat ≤ maxRoute) && decide (point.toNat ≤ maxM)
  | .sampleReceive _ => true
  | .samplePeriodEnd => true
  | .windowEnd => true
  | .rais c => decide (c.toNat < 4)
  | .lowr c => decide (c.toNat < 4)
  | .armc c => decide (c.toNat < 4)
  | .snap c => decide (c.toNat < 4)
  | .isolIsolate c => decide (c.toNat < 4)
  | .isolRestore c => decide (c.toNat < 4)
  | .ftab h pts => decide (h.toNat ≤ 1) && speedsAscend pts.toList
  | .strokePressEnd _ => true
  | .strokePauseEnd _ => true
  | .riseTimeout _ => true
  | .contactAssert _ => true
  | .contactLoss _ => true
  | .contactTimeout _ => true
  | .fallTimeout _ => true
  | .housedAssert _ => true
  | .housedLoss _ => true
  | .stripAssert _ => true
  | .emergAssert => true
  | .emergRelease => true
  | .airokChange _ => true
  | .settleSample _ => true
  | .positionFeedbackChange _ _ => true
  | .travelFeedbackChange a _ => decide (a = .ta) || decide (a = .td) || decide (a = .es)
  | .motionTimeout _ => true
  | .guardTimerEnd _ => true
  | .fclr a => decide (a.toNat ≤ 10)
  | .brkc => true
  | .brko => true
  | .erthOn => true
  | .erthOff => true
  | .sels t => decide (t.toNat ≤ 3) || decide (t.toNat = 0xFF)
  | .peerWaitTimeout => true
  | .proveTimeout => true
  | .chng t => decide (t.toNat ≤ 3)
  | .cabt => true
  | .cack => true
  | .heaterSecond _ => true
  | .heat h p _ => decide (h.toNat < 6) && decide (p.toNat < 4)
  | .frstOn => true
  | .frstOff => true
  | .scrpOn => true
  | .scrpOff => true
  | .gtInChange _ => true
  | .rqInChange _ => true
  | .cplInChange _ => true
  | .peerOn => true
  | .peerOff => true
  | .evrtRead t n => (decide (t.toNat = 0) && decide (n.toNat < 24)) || (decide (t.toNat = 1) && decide (n.toNat < 3))
  | .evrtWriteEvent n _ m => decide (n.toNat < 24) && decide (m.toNat < 8)
  | .evrtWriteLine n m _ => decide (n.toNat < 3) && decide (m.toNat ≤ 1)
  | .slak m => decide (m.toNat < 8)
  | .pulseEnd _ => true
  | .frameReceived _ => true
  | .characterError => true
  | .frameGapTimeout => true
  | .unknownCommand k _ => decide (1 ≤ k.toNat) && decide (k.toNat ≤ 0x3F) && !commandKinds.contains k.toNat
  | .transmitFrameEnd => true
  | .modeRun => true
  | .modeStandby => true
  | .rstw => true
  | .setp n _ => decide (1 ≤ n.toNat) && decide (n.toNat ≤ 46)
  | .getp n => decide (1 ≤ n.toNat) && decide (n.toNat ≤ 46)
  | .stat => true
  | .stripRelease _ => true
  | .overLongPayloadLength => true

end Sys2Proof
end

