-- ==== Sys2Proof/Machine/Operands.lean ====
section
/-! DEFINITION. The operand forms of the map commands: the section record as it travels, its checks (R19) and what they
report (R191), and the record the part stores. -/

namespace Sys2Proof.Machine

open Config

/-- The record is of a gap kind. -/
def RawRecord.isGap (r : RawRecord) : Bool := decide (r.kind.toNat = 1) || decide (r.kind.toNat = 2)

/-- The offset of the first check of the list that fails. -/
def firstFailing : List (Bool × Nat) → Option Nat
  | [] => none
  | (ok, at_) :: rest => if ok then firstFailing rest else some at_

/-- R19: the range checks of a record whose first byte is byte `o` of the payload, in R19's order, each with the offset of
its field. DESIGN CHOICE (log 16): a gap_lo not below gap_hi names gap_lo, a gap longer than 2,000 m names gap_hi. -/
def recordChecks (o : Nat) (r : RawRecord) : List (Bool × Nat) :=
  let gap := RawRecord.isGap r
  [(decide (r.kind.toNat ≤ 3), o),
   (gap || Sys2Proof.RawRecord.supplyCode r.supply, o + 1),
   (!gap || Sys2Proof.RawRecord.supplyCode r.supplyLo, o + 12),
   (!gap || Sys2Proof.RawRecord.supplyCode r.supplyHi, o + 13),
   (decide (r.headFit.toNat ≤ 2), o + 2),
   (decide (r.ice.toNat ≤ 1), o + 3),
   (!gap || decide (r.gapLo.toNat ≤ maxM), o + 4),
   (!gap || decide (r.gapHi.toNat ≤ maxM), o + 8),
   (!gap || decide (r.gapLo.toNat < r.gapHi.toNat), o + 4),
   (!gap || decide (r.gapHi.toNat - r.gapLo.toNat ≤ maxGapLen), o + 8)]

/-- The system of a supply code already checked. -/
def checkedSystem (b : Byte) : System := (systemOf b).getD .ac25

/-- The record a payload gives, once its codes are in range; fields its kind has not are not examined (R19). -/
def RawRecord.toSection (r : RawRecord) : SectionRec :=
  let g : GapPart :=
    { lo := r.gapLo.toNat, hi := r.gapHi.toNat, supplyLo := checkedSystem r.supplyLo
      supplyHi := checkedSystem r.supplyHi, lowerInGap := decide (r.lowerInGap ≠ 0) }
  { fit := match r.headFit.toNat with | 0 => .narrow | 1 => .wide | _ => .any
    ice := decide (r.ice.toNat = 1)
    stretch :=
      match r.kind.toNat with
      | 0 => .openLine (checkedSystem r.supply)
      | 1 => .phaseGap g
      | 2 => .systemGap g
      | _ => .lowerZone (checkedSystem r.supply) }

/-- R19: the kind checks of a record for a span entry. -/
def SectionRec.spanKind (r : SectionRec) : Bool :=
  match r.stretch with
  | .phaseGap g => decide (g.supplyLo = g.supplyHi)
  | .systemGap g => decide (g.supplyLo ≠ g.supplyHi)
  | _ => true

/-- R19, R36: the kind checks of a record for a zone entry. -/
def SectionRec.zoneKind (r : SectionRec) : Bool :=
  match r.stretch with
  | .openLine _ => true
  | .lowerZone _ => true
  | _ => false

/-- R33, R35: the range checks of MAPS, whose fields begin at byte `o` of the payload. -/
def spanChecks (o : Nat) (f : SpanFields) : List (Bool × Nat) :=
  [(decide (1 ≤ f.route.toNat) && decide (f.route.toNat ≤ maxRoute), o), (decide (f.granule.toNat ≤ maxGranule), o + 2)] ++
  (match f.tail with | some (b, _) => [(decide (1 ≤ b.toNat), o + 20)] | none => []) ++
  recordChecks (o + 5) f.head ++
  (match f.tail with | some (_, t) => recordChecks (o + 21) t | none => [])

/-- R36: the RANGE checks of a WRITE of MAPZ after the slot's. -/
def zoneChecks (z : ZoneFields) : List (Bool × Nat) :=
  [(decide (1 ≤ z.route.toNat) && decide (z.route.toNat ≤ maxRoute), 2), (decide (z.base.toNat ≤ maxGranule), 4),
   (decide (3 ≤ z.sizeCode.toNat) && decide (z.sizeCode.toNat ≤ 10), 6)] ++ recordChecks 7 z.record

/-- The content MAPS and MAPD write. -/
def SpanFields.content (f : SpanFields) : SpanContent :=
  { route := f.route.toNat, granule := f.granule.toNat, pinned := decide (f.pinned ≠ 0)
    head := RawRecord.toSection f.head, tail := f.tail.map fun x => (x.1.toNat, RawRecord.toSection x.2) }

/-- R19: the kind checks of a span entry's records. -/
def SpanContent.kindsOk (c : SpanContent) : Bool :=
  c.head.spanKind && (match c.tail with | some (_, t) => t.spanKind | none => true)

/-- The content a WRITE of MAPZ writes. -/
def ZoneFields.content (z : ZoneFields) : ZoneContent :=
  { route := z.route.toNat, base := z.base.toNat, sizeCode := z.sizeCode.toNat, record := RawRecord.toSection z.record }

end Sys2Proof.Machine
end

