-- ==== Sys2Proof/Machine/RouteMap.lean ====
section
/-! DEFINITION. The Route Map's rows (chapter 2): the sweep and the commands MAPS, MAPD, MAPZ, MAPP, MAPC, MAPR and MAPQ. -/

namespace Sys2Proof.Machine

open Config

/-- MAP_SWEEP (R30, R31): CURRENT is re-probed and the watch list is rebuilt by a sweep. -/
def execMapSweep (s : State) : Host.Outcome State Fault Refusal := .next (settle (mapRound s))

/-- R20: an entry written with its content. -/
def SpanEntry.written (c : SpanContent) : SpanEntry :=
  { valid := true, barred := false, used := false, content := c, code := c }

/-- R20: a zone entry written with its content. -/
def ZoneEntry.written (c : ZoneContent) : ZoneEntry := { valid := true, content := c, code := c }

/-- R35, R37: an entry invalidated with its pinned flag cleared; its check code stays (R20, log entry 3). -/
def SpanEntry.purged (e : SpanEntry) : SpanEntry := { e with valid := false, content := { e.content with pinned := false } }

/-- R34: the first slot from k on that satisfies `p`. -/
def firstSlot (p : SpanEntry → Bool) : Nat → List SpanEntry → Option Nat
  | _, [] => none
  | k, e :: rest => if p e then some k else firstSlot p (k + 1) rest

/-- R34, case 4: the used flags of all unpinned, unbarred entries are cleared. -/
def clearUsedUnpinned (l : Vector SpanEntry 40) : Vector SpanEntry 40 :=
  l.map fun e => if !e.content.pinned && !e.barred then { e with used := false } else e

/-- R34, cases 2 to 5: the slot taken, with the entries as the choice leaves them. -/
def chooseSlot (l : Vector SpanEntry 40) : Vector SpanEntry 40 × Option Nat :=
  match firstSlot (fun e => !e.valid && !e.barred) 0 l.toList with
  | some k => (l, some k)
  | none =>
    match firstSlot (fun e => e.valid && !e.content.pinned && !e.barred && !e.used) 0 l.toList with
    | some k => (l, some k)
    | none =>
      match firstSlot (fun e => !e.content.pinned && !e.barred) 0 l.toList with
      | some k => (clearUsedUnpinned l, some k)
      | none => (l, none)

/-- R20, R31: the entry of a slot is written, and the round of re-probe and sweep follows. -/
def writeSpan (k : Nat) (c : SpanContent) (s : State) : State :=
  emit [.mapRound] (s.withRmap (s.rmap.modSpan k fun _ => SpanEntry.written c))

/-- MAPS (R33, R34). DESIGN CHOICE (log 40): a failed entry that the key search bars (R21) stays barred when the command is
then refused FULL, which R33 says changes no entry. -/
def cmdMaps (f : SpanFields) (s : State) : State × Answer :=
  match firstFailing (spanChecks 0 f) with
  | some o => outOfRange o s
  | none =>
    let c := SpanFields.content f
    if !c.kindsOk then (s, .refused .kind 0)
    else
      let found := searchSpans c.route c.granule 0 s.rmap.spans.toList
      let s1 := applyFailures found.1 [] s
      match found.2 with
      | some (k, _) => (writeSpan k c s1, .ok .done (be1 k))
      | none =>
        match chooseSlot s1.rmap.spans with
        | (l, some k) => (writeSpan k c (s1.withRmap { s1.rmap with spans := l }), .ok .done (be1 k))
        | (_, none) => (s1, .refused .full 0)

def execMaps (f : SpanFields) (s : State) : Host.Outcome State Fault Refusal := asCommand 0x11 (.maps f) (cmdMaps f) s

/-- MAPD (R35). -/
def cmdMapd (slot : Byte) (f : SpanFields) (s : State) : State × Answer :=
  match firstFailing ((decide (slot.toNat < 40), 0) :: spanChecks 1 f) with
  | some o => outOfRange o s
  | none =>
    let c := SpanFields.content f
    if !c.kindsOk then (s, .refused .kind 0)
    else
      let others := s.rmap.modSpan slot.toNat fun e => { e with valid := false }
      let found := searchSpans c.route c.granule 0 others.spans.toList
      let s1 := applyFailures found.1 [] s
      match found.2 with
      | some (k, _) =>
        (writeSpan slot.toNat c (s1.withRmap (s1.rmap.modSpan k SpanEntry.purged)), .ok .done (be1 k))
      | none => (writeSpan slot.toNat c s1, .ok .done (be1 0xFF))

def execMapd (slot : Byte) (f : SpanFields) (s : State) : Host.Outcome State Fault Refusal :=
  asCommand 0x12 (.mapd slot f) (cmdMapd slot f) s

/-- MAPZ (R36): CLEAR without fields, WRITE with them. -/
def cmdMapz (slot : Byte) (write : Option ZoneFields) (s : State) : State × Answer :=
  match write with
  | none =>
    if 6 ≤ slot.toNat then outOfRange 0 s
    else
      let was := s.rmap.zones.toList.map (·.valid) |>.getD slot.toNat false
      let s1 := s.withRmap (s.rmap.modZone slot.toNat fun z => { z with valid := false })
      (if was then emit [.mapRound] s1 else s1, .done)
  | some z =>
    match firstFailing ((decide (slot.toNat < 6), 0) :: zoneChecks z) with
    | some o => outOfRange o s
    | none =>
      let c := ZoneFields.content z
      if c.base % 2 ^ c.sizeCode ≠ 0 then (s, .refused .align 0)
      else if !(c.record.zoneKind && c.record.spanKind) then (s, .refused .kind 0)
      else (emit [.mapRound] (s.withRmap (s.rmap.modZone slot.toNat fun _ => ZoneEntry.written c)), .done)

def execMapz (slot : Byte) (write : Option ZoneFields) (s : State) : Host.Outcome State Fault Refusal :=
  asCommand 0x13 (.mapz slot write) (cmdMapz slot write) s

/-- MAPP (R37). -/
def cmdMapp (route granule : Half) (s : State) : State × Answer :=
  if route.toNat = 0 ∨ maxRoute < route.toNat then outOfRange 0 s
  else if maxGranule < granule.toNat then outOfRange 2 s
  else
    let found := searchSpans route.toNat granule.toNat 0 s.rmap.spans.toList
    let s1 := applyFailures found.1 [] s
    match found.2 with
    | some (k, _) => (emit [.mapRound] (s1.withRmap (s1.rmap.modSpan k SpanEntry.purged)), .ok .done (be1 k))
    | none => (s1, .ok .done (be1 0xFF))

def execMapp (route granule : Half) (s : State) : Host.Outcome State Fault Refusal :=
  asCommand 0x14 (.mapp route granule) (cmdMapp route granule) s

/-- R38: an entry after MAPC UNPINNED. -/
def SpanEntry.clearedUnpinned (e : SpanEntry) : SpanEntry := { e with valid := e.valid && e.content.pinned, used := false }

/-- R38: an entry after MAPC ALL. -/
def SpanEntry.clearedAll (e : SpanEntry) : SpanEntry :=
  { e with valid := false, used := false, content := { e.content with pinned := false } }

/-- MAPC (R38). -/
def cmdMapc (variant : Byte) (s : State) : State × Answer :=
  if 1 < variant.toNat then outOfRange 0 s
  else
    let all := decide (variant.toNat = 1)
    let l := s.rmap.spans.toList
    let count := (l.filter fun e => e.valid && (all || !e.content.pinned)).length
    let s1 := s.withRmap { s.rmap with
      spans := s.rmap.spans.map fun e => if all then e.clearedAll else e.clearedUnpinned }
    (if count = 0 ∧ (l.any (·.used)) = false then s1 else emit [.mapRound] s1, .ok .done (be1 count))

def execMapc (variant : Byte) (s : State) : Host.Outcome State Fault Refusal :=
  asCommand 0x15 (.mapc variant) (cmdMapc variant) s

/-- The answer fields of MAPR for a span entry (10.9). -/
def SpanEntry.bytes (e : SpanEntry) : List Byte :=
  be1 (bit e.valid + 2 * bit e.content.pinned + 4 * bit e.barred + 8 * bit e.used + 16 * bit e.content.tail.isSome) ++
  be1 (bit (!e.intact)) ++ be2 e.content.route ++ be2 e.content.granule ++ e.content.head.bytes ++
  (match e.content.tail with
   | some (b, t) => be1 b ++ t.bytes
   | none => List.replicate 16 0)

/-- The answer fields of MAPR for a zone entry. -/
def ZoneEntry.bytes (z : ZoneEntry) : List Byte :=
  be1 (bit z.valid) ++ be1 (bit (!z.intact)) ++ be2 z.content.route ++ be2 z.content.base ++ be1 z.content.sizeCode ++
  z.content.record.bytes

/-- MAPR (R39). -/
def cmdMapr (table slot : Byte) (s : State) : State × Answer :=
  match table.toNat with
  | 0 => if h : slot.toNat < 40 then (s, .ok .done (s.rmap.spans.get ⟨slot.toNat, h⟩).bytes) else outOfRange 1 s
  | 1 => if h : slot.toNat < 6 then (s, .ok .done (s.rmap.zones.get ⟨slot.toNat, h⟩).bytes) else outOfRange 1 s
  | _ => outOfRange 0 s

def execMapr (table slot : Byte) (s : State) : Host.Outcome State Fault Refusal :=
  asCommand 0x16 (.mapr table slot) (cmdMapr table slot) s

/-- R40: the first entry a lookup found failed. -/
def Looked.firstFailed (l : Looked) : Option SlotRef :=
  match l.badSpans, l.badZones with
  | k :: _, _ => some (.span k false)
  | [], k :: _ => some (.zone k)
  | [], [] => none

/-- MAPQ (R40). -/
def cmdMapq (route : Half) (point : Quad) (s : State) : State × Answer :=
  if maxRoute < route.toNat then outOfRange 0 s
  else if maxM < point.toNat then outOfRange 2 s
  else
    let l := lookup s.rmap route.toNat (point.toNat : Int)
    (s, .ok .done (be1 (bit l.hit.isSome) ++ be1 (slotRefCode (l.hit.map (·.source))) ++ be1 (slotRefCode l.firstFailed) ++
      (match l.hit with | some h => h.record.bytes | none => List.replicate 15 0)))

def execMapq (route : Half) (point : Quad) (s : State) : Host.Outcome State Fault Refusal :=
  asCommand 0x17 (.mapq route point) (cmdMapq route point) s

end Sys2Proof.Machine
end

