-- ==== Sys2Proof/Machine/Switchgear.lean ====
section
/-! DEFINITION. The Switchgear Drive's rows (chapter 5): feedback changes and the drive's timers, and the commands FCLR,
BRKC, BRKO, ERTH and SELS. -/

namespace Sys2Proof.Machine

/-! ## Confirming (5.2) -/

/-- SETTLE_SAMPLE (R90): the one sample of a motion with a settle count from 1 to 15. -/
def execSettleSample (a : Actuator) (s : State) : Host.Outcome State Fault Refusal :=
  let r := s.act a
  if r.motion = .settling ∧ r.settle ≠ 0 then
    if s.fb a = r.commanded then .next (settle (confirmMotion a s))
    else if s.travel a then .next (s.setAct a { r with motion := .travel })
    else .next (settle (faultAct a .noMatch s))
  else .next s

/-- MOTION_TIMEOUT (R90, R91): 3 s without a confirmation. -/
def execMotionTimeout (a : Actuator) (s : State) : Host.Outcome State Fault Refusal :=
  let r := s.act a
  if r.motion = .travel ∨ (r.motion = .settling ∧ r.settle = 0) then .next (settle (faultAct a .timeout s)) else .next s

/-! ## Changes of feedback (5.4) -/

/-- R98: MB opened by itself. DESIGN CHOICE (log 24): MB_CHANGE for confirmed OPEN is raised before SELFTRIP joins, then
MB_CHANGE for UNSURE, then SELF_TRIP. -/
def selfTrip (s : State) : State :=
  let s1 := updateReasons (fun x => { x with selftrip := true }) (setConfirmed .mb .opened s)
  raise (.selfTrip s1.pos.m s1.lcl.line s1.sgd.reasons) s1

/-- R96, R97, R98: the position feedback of an actuator changed with no motion and no fault. -/
def uncommanded (a : Actuator) (s : State) : State :=
  let r := s.act a
  if a = .mb ∧ r.commanded = .opened ∧ s.fb .mb = .closed then faultAct .mb .uncommanded s
  else if a = .mb ∧ r.commanded = .closed ∧ s.fb .mb = .opened then selfTrip s
  else setConfirmed a (if s.travel a then .unsure else confirmedAt (s.fb a)) s

/-- R99: the feedbacks of KA and KD are compared. -/
def weldCheck (a : Actuator) (s : State) : State :=
  if (a = .ka ∨ a = .kd) ∧ s.fb .ka = .closed ∧ s.fb .kd = .closed then
    updateReasons (fun x => { x with weld := true }) (raise (.weld .closed .closed) s)
  else s

/-- R90, R91, R97: what the drive makes of a new position feedback. -/
def feedbackActs (a : Actuator) (s : State) : State :=
  let r := s.act a
  match r.motion with
  | .settling => if r.settle = 0 ∧ s.fb a = r.commanded then confirmMotion a s else s
  | .travel => if s.fb a = r.commanded then confirmMotion a s else s
  | .none => if r.fault then s else uncommanded a s

/-- The position feedback of an actuator takes a position. -/
def setFeedback (a : Actuator) (p : Place) (s : State) : State :=
  s.withInp { s.inp with feedback := s.inp.feedback.set (actNo a).val p (actNo a).isLt }

/-- POSITION_FEEDBACK_CHANGE (R90, R91, R96 to R99). -/
def execPositionFeedbackChange (a : Actuator) (p : Place) (s : State) : Host.Outcome State Fault Refusal :=
  if s.fb a = p then .next s
  else .next (settle (weldCheck a (feedbackActs a (setFeedback a p s))))

/-- The travel feedback of TA, TD or ES takes a level. -/
def setTravel (a : Actuator) (level : Bool) (s : State) : State :=
  match a with
  | .ta => s.withInp { s.inp with travelTa := level }
  | .td => s.withInp { s.inp with travelTd := level }
  | .es => s.withInp { s.inp with travelEs := level }
  | _ => s

/-- TRAVEL_FEEDBACK_CHANGE (R97). -/
def execTravelFeedbackChange (a : Actuator) (level : Bool) (s : State) : Host.Outcome State Fault Refusal :=
  let s1 := setTravel a level s
  if s1.travel a = s.travel a then .next s1
  else
    let r := s.act a
    if r.motion = .none ∧ r.fault = false then
      .next (settle (setConfirmed a (if level then .unsure else confirmedAt (s.fb a)) s1))
    else .next s1

/-- GUARD_TIMER_END (R99, R102). -/
def execGuardTimerEnd (p : Path) (s : State) : Host.Outcome State Fault Refusal :=
  if s.guarded p then
    .next (settle (emit [.procRun, .sequencerRun]
      (s.withSgd (match p with | .ac => { s.sgd with guardKa := none } | .dc => { s.sgd with guardKd := none }))))
  else .next s

/-! ## Commands -/

/-- FCLR (R93). -/
def cmdFclr (actuator : Byte) (s : State) : State × Answer :=
  match actOfNo actuator.toNat with
  | none => outOfRange 0 s
  | some a =>
    let r := s.act a
    if !r.fault then (s, .done)
    else if s.fb a ≠ r.commanded ∨ s.travel a = true then (s, .refused .interlock 0)
    else (emit [.rerate] (setConfirmed a (confirmedAt (s.fb a)) (s.setAct a { r with fault := false })), .done)

def execFclr (actuator : Byte) (s : State) : Host.Outcome State Fault Refusal :=
  asCommand 0x2B (.fclr actuator) (cmdFclr actuator) s

/-- BRKC (R110, R111). -/
def cmdBrkc (s : State) : State × Answer :=
  let s1 := updateReasons (fun x => { x with hold := false, selftrip := false }) s
  match closeMb .host s1 with
  | (t, .interlock) => (t, .refused .interlock t.sgd.reasons.code)
  | (t, .fault) => (t, .refused .fault 0)
  | (t, .done) => (t, .done)
  | (t, _) => (t, .accepted)

def execBrkc (s : State) : Host.Outcome State Fault Refusal := asCommand 0x28 .brkc cmdBrkc s

/-- BRKO (R112). -/
def cmdBrko (s : State) : State × Answer :=
  let t := updateReasons (fun x => { x with hold := true }) s
  let r := t.act .mb
  (t, if r.fault then .refused .fault 0
    else if r.confirmed = .opened ∧ r.motion = .none then .done
    else .accepted)

def execBrko (s : State) : Host.Outcome State Fault Refusal := asCommand 0x29 .brko cmdBrko s

/-- R105: the rest of ERTH once its interlock has passed. -/
def erth (p : Place) (s : State) : State × Answer :=
  let r := s.act .es
  if r.fault then (s, .refused .fault (actNo .es).val)
  else if r.confirmed = confirmedAt p ∧ r.motion = .none then (s, .done)
  else ((request .es p .host s).1, .accepted)

/-- ERTH ON (R105). -/
def cmdErthOn (s : State) : State × Answer :=
  if !interlockOk .es .closed s then (s, .refused .interlock 0) else erth .closed s

def execErthOn (s : State) : Host.Outcome State Fault Refusal := asCommand 0x2A .erthOn cmdErthOn s

/-- ERTH OFF (R105). -/
def cmdErthOff (s : State) : State × Answer := erth .opened s

def execErthOff (s : State) : Host.Outcome State Fault Refusal := asCommand 0x2A .erthOff cmdErthOff s

/-- A target of SELS: a system or NONE, 0xFF. -/
def selsTarget (b : Byte) : Option (Option System) :=
  if b.toNat = 0xFF then some none else (systemOf b).map some

/-- SELS (R102, R104). -/
def cmdSels (target : Byte) (s : State) : State × Answer :=
  match selsTarget target with
  | none => outOfRange 0 s
  | some x =>
    if s.mode = .run then (s, .refused .mode 0)
    else if s.pos.speed ≠ 0 then (s, .refused .busy 0)
    else
      match procRequest x .sels s with
      | (t, .busy) => (t, .refused .busy 0)
      | (t, .interlock) => (t, .refused .interlock 0)
      | (t, .fault a) => (t, .refused .fault (actNo a).val)
      | (t, .done) => (t, .done)
      | (t, .taken) => (t, .accepted)

def execSels (target : Byte) (s : State) : Host.Outcome State Fault Refusal :=
  asCommand 0x2C (.sels target) (cmdSels target) s

end Sys2Proof.Machine
end

