-- ==== Sys2Proof/Machine/VehicleLink.lean ====
section
/-! DEFINITION. The Vehicle Link Port's rows (chapter 10): reception, the taking of commands, sending, MODE and RSTW. -/

namespace Sys2Proof.Machine

open Config

/-! ## Modes and warm reset (10.5, 10.6) -/

/-- R194: the mode becomes m; a change is handed to the blocks that read it. The sequencer takes it before reason STBY joins,
so that a plan in CLOSING fails with STANDBY as R138 asks. -/
def setMode (m : Mode) (s : State) : State × Answer :=
  if s.mode = m then (s, .done) else (emit [.modeChanged] (s.withMode m), .done)

/-- MODE RUN (R194). -/
def cmdModeRun (s : State) : State × Answer := setMode .run s

def execModeRun (s : State) : Host.Outcome State Fault Refusal := asCommand 0x02 .modeRun cmdModeRun s

/-- MODE STANDBY (R194). -/
def cmdModeStandby (s : State) : State × Answer := setMode .standby s

def execModeStandby (s : State) : Host.Outcome State Fault Refusal := asCommand 0x02 .modeStandby cmdModeStandby s

/-- RSTW (R195): the warm reset waits for the end of the answer. -/
def cmdRstw (s : State) : State × Answer := (s.withVlp { s.vlp with resetPending := true }, .done)

def execRstw (s : State) : Host.Outcome State Fault Refusal := asCommand 0x03 .rstw cmdRstw s

/-! ## The check of a frame (R188) -/

/-- One bit of the cyclic check. -/
def crcBit (r : BitVec 16) (b : Bool) : BitVec 16 :=
  let shifted := r <<< 1
  if r.getMsbD 0 != b then shifted ^^^ 0x1021 else shifted

/-- One byte, most significant bit first. -/
def crcByte (r : BitVec 16) (b : Byte) : BitVec 16 :=
  [7, 6, 5, 4, 3, 2, 1, 0].foldl (fun x k => crcBit x (b.getLsbD k)) r

/-- R188: the cyclic check over a list of bytes. -/
def crc (l : List Byte) : BitVec 16 := l.foldl crcByte 0xFFFF

/-- The bytes of a frame on the line (10.9). -/
def TxFrame.line (f : TxFrame) : List Byte :=
  let body := [f.kind, f.tag, BitVec.ofNat 8 f.payload.length] ++ f.payload
  [startByte] ++ body ++ be2 (crc body).toNat

/-- The length of a frame on the line (10.1). -/
def TxFrame.size (f : TxFrame) : Nat := 6 + f.payload.length

/-! ## Reading a payload (10.9) -/

/-- Byte i of a payload. -/
def byteAt (l : List Byte) (i : Nat) : Byte := l.getD i 0

/-- The two-byte field at byte i. -/
def halfAt (l : List Byte) (i : Nat) : Half := BitVec.ofNat 16 (256 * (byteAt l i).toNat + (byteAt l (i + 1)).toNat)

/-- The four-byte field at byte i. -/
def quadAt (l : List Byte) (i : Nat) : Quad := BitVec.ofNat 32 (65536 * (halfAt l i).toNat + (halfAt l (i + 2)).toNat)

/-- The section record at byte i. -/
def recordAt (l : List Byte) (i : Nat) : RawRecord :=
  { kind := byteAt l i, supply := byteAt l (i + 1), headFit := byteAt l (i + 2), ice := byteAt l (i + 3)
    gapLo := quadAt l (i + 4), gapHi := quadAt l (i + 8), supplyLo := byteAt l (i + 12), supplyHi := byteAt l (i + 13)
    lowerInGap := byteAt l (i + 14) }

/-- The MAPS fields at byte i. -/
def spanAt (l : List Byte) (i : Nat) (long : Bool) : SpanFields :=
  { route := halfAt l i, granule := halfAt l (i + 2), pinned := byteAt l (i + 4), head := recordAt l (i + 5)
    tail := if long then some (byteAt l (i + 20), recordAt l (i + 21)) else none }

/-- Point k of FTAB. -/
def pointAt (l : List Byte) (k : Nat) : RawPoint := { speed := halfAt l (1 + 4 * k), force := halfAt l (3 + 4 * k) }

/-- A command frame of one allowed length: another length is refused LENGTH (R190). -/
def ofLength (n : Nat) (l : List Byte) (c : Content) : Content := if l.length = n then c else .refused .length 0

/-- A one-byte variant, OFF 0 or ON 1; another code is refused RANGE. -/
def onOff (l : List Byte) (on off : Instr) : Content :=
  ofLength 1 l
    (match (byteAt l 0).toNat with
     | 0 => .command off
     | 1 => .command on
     | _ => .refused .range 0)

/-- ISOL: channel, then variant ISOLATE 0 or RESTORE 1. -/
def decodeIsol (l : List Byte) : Content :=
  if 4 ≤ (byteAt l 0).toNat then .refused .range 0
  else
    match (byteAt l 1).toNat with
    | 0 => .command (.isolIsolate (byteAt l 0))
    | 1 => .command (.isolRestore (byteAt l 0))
    | _ => .refused .range 1

/-- EVRT: operation READ 0 or WRITE 1, then target EVENT 0 or LINE 1. -/
def decodeEvrt (l : List Byte) : Content :=
  match (byteAt l 0).toNat, (byteAt l 1).toNat with
  | 0, _ => .command (.evrtRead (byteAt l 1) (byteAt l 2))
  | 1, 0 => .command (.evrtWriteEvent (byteAt l 2) (byteAt l 3) (byteAt l 4))
  | 1, 1 => .command (.evrtWriteLine (byteAt l 2) (byteAt l 3) (halfAt l 5))
  | 1, _ => .refused .range 1
  | _, _ => .refused .range 0

/-- MAPZ: slot, then variant WRITE 0 or CLEAR 1; a length that disagrees with the variant is answered LENGTH. -/
def decodeMapz (l : List Byte) : Content :=
  if l.length = 2 ∨ l.length = 22 then
    match (byteAt l 1).toNat with
    | 0 =>
      ofLength 22 l (.command (.mapz (byteAt l 0)
        (some { route := halfAt l 2, base := halfAt l 4, sizeCode := byteAt l 6, record := recordAt l 7 })))
    | 1 => ofLength 2 l (.command (.mapz (byteAt l 0) none))
    | _ => if 6 ≤ (byteAt l 0).toNat then .refused .range 0 else .refused .range 1
  else .refused .length 0

/-- MAPS and MAPD by their two allowed lengths. -/
def decodeSpan (short : Nat) (l : List Byte) (c : Bool → Instr) : Content :=
  if l.length = short then .command (c false)
  else if l.length = short + 16 then .command (c true)
  else .refused .length 0

/-- R190: the kind and length of a command frame are checked and its fields are read (10.9, Command payloads). -/
def decodeCommand (kind : Byte) (l : List Byte) : Content :=
  match kind.toNat with
  | 0x01 => ofLength 0 l (.command .stat)
  | 0x02 =>
    ofLength 1 l
      (match (byteAt l 0).toNat with
       | 0 => .command .modeRun
       | 1 => .command .modeStandby
       | _ => .refused .range 0)
  | 0x03 => ofLength 0 l (.command .rstw)
  | 0x04 => ofLength 3 l (.command (.setp (byteAt l 0) (halfAt l 1)))
  | 0x05 => ofLength 1 l (.command (.getp (byteAt l 0)))
  | 0x06 => ofLength 7 l (decodeEvrt l)
  | 0x07 => ofLength 1 l (.command (.slak (byteAt l 0)))
  | 0x10 => ofLength 8 l (.command (.fixp (byteAt l 0) (quadAt l 1) (halfAt l 5) (byteAt l 7)))
  | 0x11 => decodeSpan 20 l fun long => .maps (spanAt l 0 long)
  | 0x12 => decodeSpan 21 l fun long => .mapd (byteAt l 0) (spanAt l 1 long)
  | 0x13 => decodeMapz l
  | 0x14 => ofLength 4 l (.command (.mapp (halfAt l 0) (halfAt l 2)))
  | 0x15 => ofLength 1 l (.command (.mapc (byteAt l 0)))
  | 0x16 => ofLength 2 l (.command (.mapr (byteAt l 0) (byteAt l 1)))
  | 0x17 => ofLength 6 l (.command (.mapq (halfAt l 0) (quadAt l 2)))
  | 0x20 => ofLength 1 l (.command (.rais (byteAt l 0)))
  | 0x21 => ofLength 1 l (.command (.lowr (byteAt l 0)))
  | 0x22 => ofLength 1 l (.command (.armc (byteAt l 0)))
  | 0x23 => ofLength 2 l (decodeIsol l)
  | 0x24 =>
    ofLength 33 l (.command (.ftab (byteAt l 0)
      #v[pointAt l 0, pointAt l 1, pointAt l 2, pointAt l 3, pointAt l 4, pointAt l 5, pointAt l 6, pointAt l 7]))
  | 0x25 => ofLength 1 l (.command (.snap (byteAt l 0)))
  | 0x28 => ofLength 0 l (.command .brkc)
  | 0x29 => ofLength 0 l (.command .brko)
  | 0x2A => onOff l .erthOn .erthOff
  | 0x2B => ofLength 1 l (.command (.fclr (byteAt l 0)))
  | 0x2C => ofLength 1 l (.command (.sels (byteAt l 0)))
  | 0x30 => ofLength 1 l (.command (.chng (byteAt l 0)))
  | 0x31 => ofLength 0 l (.command .cabt)
  | 0x32 => ofLength 0 l (.command .cack)
  | 0x34 => ofLength 4 l (.command (.heat (byteAt l 0) (byteAt l 1) (halfAt l 2)))
  | 0x35 => onOff l .frstOn .frstOff
  | 0x36 => onOff l .scrpOn .scrpOff
  | 0x38 => onOff l .peerOn .peerOff
  | _ => .refused .unknown 0

/-! ## Taking a command (10.2) -/

/-- What the owning block does with each command; a row that is no command changes nothing here. -/
def effectOf (i : Instr) : State → State × Answer :=
  match i with
  | .fixp q p r w => cmdFixp q p r w
  | .maps f => cmdMaps f
  | .mapd k f => cmdMapd k f
  | .mapz k w => cmdMapz k w
  | .mapp r g => cmdMapp r g
  | .mapc v => cmdMapc v
  | .mapr t k => cmdMapr t k
  | .mapq r p => cmdMapq r p
  | .rais c => onChannelByte c cmdRais
  | .lowr c => onChannelByte c cmdLowr
  | .armc c => onChannelByte c cmdArmc
  | .snap c => onChannelByte c cmdSnap
  | .isolIsolate c => onChannelByte c cmdIsolate
  | .isolRestore c => onChannelByte c cmdRestore
  | .ftab h p => cmdFtab h p
  | .fclr a => cmdFclr a
  | .brkc => cmdBrkc
  | .brko => cmdBrko
  | .erthOn => cmdErthOn
  | .erthOff => cmdErthOff
  | .sels t => cmdSels t
  | .chng t => cmdChng t
  | .cabt => cmdCabt
  | .cack => cmdCack
  | .heat h p t => cmdHeat h p t
  | .frstOn => cmdFrstOn
  | .frstOff => cmdFrstOff
  | .scrpOn => cmdScrpOn
  | .scrpOff => cmdScrpOff
  | .peerOn => cmdPeerOn
  | .peerOff => cmdPeerOff
  | .evrtRead t n => cmdEvrtRead t n
  | .evrtWriteEvent n f m => cmdEvrtWriteEvent n f m
  | .evrtWriteLine n m k => cmdEvrtWriteLine n m k
  | .slak m => cmdSlak m
  | .modeRun => cmdModeRun
  | .modeStandby => cmdModeStandby
  | .rstw => cmdRstw
  | .setp n v => cmdSetp n v
  | .getp n => cmdGetp n
  | .stat => cmdStat
  | _ => fun s => (s, .refused .unknown 0)

/-- R190: a received command is taken and carried out. -/
def takeCommand (r : Received) (s : State) : State :=
  match r.content with
  | .command i => carry r.kind r.tag (effectOf i) s
  | .refused o d => carry r.kind r.tag (fun t => (t, .refused o d)) s

/-- R190: a received command is taken at once when none is in hand, else it waits or overruns. -/
def receiveCommand (r : Received) (s : State) : State :=
  if s.vlp.inHand.isEmpty && !s.vlp.carrying && !s.vlp.resetPending then takeCommand r s else holdCommand r s

/-- R189: a frame that passed its check is sorted by its kind. -/
def sortFrame (kind tag : Byte) (payload : List Byte) (s : State) : State :=
  if kind.toNat = 0 ∨ 0x40 ≤ kind.toNat then s.withVlp { s.vlp with linkError := true }
  else receiveCommand { kind := kind, tag := tag, content := decodeCommand kind payload } s

/-! ## Reception (10.1) -/

/-- R188: the frame in `buf`, from its kind to its second check byte, is whole. -/
def frameWhole (buf : List Byte) (s : State) : State :=
  let n := (byteAt buf 2).toNat
  let body := buf.take (3 + n)
  let s1 := s.withVlp { s.vlp with rx := .hunt, rxBuf := [] }
  if crc body = halfAt buf (3 + n) then sortFrame (byteAt buf 0) (byteAt buf 1) (body.drop 3) s1
  else s1.withVlp { s1.vlp with linkError := true }

/-- The frame in course is discarded and the receiver returns to HUNT; `flag` tells whether link-error is set. -/
def discardFrame (flag : Bool) (s : State) : State :=
  s.withVlp { s.vlp with rx := .hunt, rxBuf := [], linkError := s.vlp.linkError || flag }

/-- The receiver takes a receive state with the characters of the frame so far. -/
def setRx (x : RxState) (buf : List Byte) (s : State) : State := s.withVlp { s.vlp with rx := x, rxBuf := buf }

/-- R187: more than 5 ms have passed within a frame: the frame in course is discarded without the flag. -/
def endPause (s : State) : State := if s.vlp.rx ≠ .hunt ∧ frameGap < s.vlp.rxSince then discardFrame false s else s

/-- R187: one character received with its stop bit high; one that ends a pause is examined in HUNT. -/
def receiveChar (c : Byte) (s0 : State) : State :=
  let s1 := endPause s0
  let s := s1.withVlp { s1.vlp with rxSince := 0 }
  let buf := s.vlp.rxBuf ++ [c]
  let n := (byteAt buf 2).toNat
  match s.vlp.rx with
  | .hunt => if c = startByte then setRx .header [] s else s
  | .header =>
    if buf.length < 3 then setRx .header buf s
    else if maxPayload < n then discardFrame true s
    else if n = 0 then setRx .check buf s
    else setRx .payload buf s
  | .payload => if buf.length < 3 + n then setRx .payload buf s else setRx .check buf s
  | .check => if buf.length < 5 + n then setRx .check buf s else frameWhole buf s

/-- FRAME_RECEIVED (R187 to R190): the characters of the frame arrive. -/
def execFrameReceived (chars : List Byte) (s : State) : Host.Outcome State Fault Refusal :=
  .next (chars.foldl (fun t c => receiveChar c t) s)

/-- CHARACTER_ERROR (R187): a character with its stop bit low. -/
def execCharacterError (s : State) : Host.Outcome State Fault Refusal := .next (discardFrame true s)

/-- FRAME_GAP_TIMEOUT (R187): within a frame, the frame is discarded without the flag. -/
def execFrameGapTimeout (s : State) : Host.Outcome State Fault Refusal := .next (discardFrame false s)

/-- OVER_LONG_PAYLOAD_LENGTH (R187). -/
def execOverLongPayloadLength (s : State) : Host.Outcome State Fault Refusal :=
  .next (s.withVlp { s.vlp with rx := .hunt, rxBuf := [], linkError := true })

/-- UNKNOWN_COMMAND (R189, R190): a frame of no payload that passed its check. -/
def execUnknownCommand (kind tag : Byte) (s : State) : Host.Outcome State Fault Refusal :=
  .next (sortFrame kind tag [] s)

/-! ## Sending (10.3) -/

/-- R190, R192: the next frame is chosen; when an answer begins to be sent and no command is in hand any more, the waiting
command is taken. -/
def nextFrame (s : State) : State :=
  let t := chooseNext s
  if !s.vlp.inHand.isEmpty && t.vlp.inHand.isEmpty && !t.vlp.resetPending then
    match t.vlp.waiting with
    | some r => takeCommand r (t.withVlp { t.vlp with waiting := none })
    | none => t
  else t

/-- R195: the frame is RSTW's own answer, of kind 0x43 with outcome DONE; a refused RSTW has the kind and another outcome. -/
def TxFrame.answersRstw (f : TxFrame) : Bool := decide (f = answerFrame 0x03 f.tag .done)

/-- TRANSMIT_FRAME_END (R192, R195): the end of RSTW's own answer is the warm reset. -/
def execTransmitFrameEnd (s : State) : Host.Outcome State Fault Refusal :=
  match s.vlp.tx with
  | none => .next s
  | some f => if s.vlp.resetPending && f.answersRstw then .next (warmReset s) else .next (nextFrame s)

end Sys2Proof.Machine
end

