-- ==== Sys2Proof/Machine/Clock.lean ====
section
/-! DEFINITION. The part's own clock (log entry 7): one tick is a sample period of 250 µs. `nextDue` names the row whose
timer has run out, `tick` lets every running timer advance by one sample period. -/

namespace Sys2Proof.Machine

open Config

/-! ## What is due -/

/-- A timer that counts down has run out. -/
def expired : Option Nat → Bool
  | some 0 => true
  | _ => false

/-- R67 to R69, R73: the channel timer that has run out. -/
def channelDue (s : State) (n : Fin 4) : Option Instr :=
  let c := s.ch n
  match c.state with
  | .stroking =>
    (match c.stroke with
     | some k => if k.left = 0 then some (if k.press then .strokePressEnd n else .strokePauseEnd n) else none
     | none => none)
  | .rising => if expired c.rise then some (.riseTimeout n) else none
  | .up => (match c.contact with | some x => if x.limit ≤ x.run then some (.contactTimeout n) else none | none => none)
  | .falling => if expired c.fall then some (.fallTimeout n) else none
  | _ => none

/-- R90, R91: the sample or the 3 s limit of an actuator's motion is due. -/
def actuatorDue (s : State) (a : Actuator) : Option Instr :=
  let r := s.act a
  match r.motion with
  | .none => none
  | .settling =>
    if r.settle = 0 then (if motionLimit ≤ r.elapsed then some (.motionTimeout a) else none)
    else (if units20 r.settle ≤ r.elapsed then some (.settleSample a) else none)
  | .travel => if motionLimit ≤ r.elapsed then some (.motionTimeout a) else none

/-- R99: a guard timer has run out. -/
def guardDue (s : State) : Option Instr :=
  if expired s.sgd.guardKa then some (.guardTimerEnd .ac)
  else if expired s.sgd.guardKd then some (.guardTimerEnd .dc)
  else none

/-- R124, R131: the sequencer's stage timer has run out. -/
def stageDue (s : State) : Option Instr :=
  if expired s.csq.timer then
    match s.csq.stage with
    | .lowering => some .peerWaitTimeout
    | .proving => some .proveTimeout
    | _ => none
  else none

/-- R148: a granted heater's second is whole. -/
def heaterDue (s : State) (h : Fin 6) : Option Instr :=
  if s.icu.grant.contains h && decide (sec 1 ≤ s.icu.progress.get h) then some (.heaterSecond h) else none

/-- R179: a pulse timer has run out. -/
def pulseDue (s : State) (i : Fin 3) : Option Instr :=
  let l := s.evr.lines.get i
  if !l.latch && expired l.timer then some (.pulseEnd i) else none

/-- R187, R192: the pause within a frame has passed 5 ms, or the frame being sent has ended; 2.88 characters of 10 bits take
one tick at 115,200 bit/s. -/
def linkDue (s : State) : Option Instr :=
  if s.vlp.rx ≠ .hunt ∧ frameGap < s.vlp.rxSince then some .frameGapTimeout
  else
    match s.vlp.tx with
    | some f => if 100 * f.size ≤ 288 * s.vlp.txElapsed then some .transmitFrameEnd else none
    | none => none

/-- The row of the first timer that has run out, in a fixed order (log entry 7). -/
def nextDue (s : State) : Option Instr :=
  if s.lcl.endDue then some .windowEnd
  else if s.pos.gateLeft = 0 then some .speedIntervalEnd
  else
    (channels.findSome? (channelDue s)) <|> (actuators.findSome? (actuatorDue s)) <|> guardDue s <|> stageDue s <|>
    (heaters.findSome? (heaterDue s)) <|> (([0, 1, 2] : List (Fin 3)).findSome? (pulseDue s)) <|> linkDue s

/-! ## One tick -/

/-- A timer that counts down, one tick later. -/
def countTick (t : Option Nat) : Option Nat := t.map (· - 1)

/-- A channel's timers, one tick later. -/
def Channel.tick (c : Channel) : Channel :=
  { c with
    stroke := c.stroke.map fun k => { k with left := k.left - 1 }
    rise := countTick c.rise
    fall := countTick c.fall
    contact := c.contact.map fun x => { x with run := x.run + 1 } }

/-- An actuator's motion, one tick later. -/
def ActRec.tick (r : ActRec) : ActRec := if r.motion = .none then r else { r with elapsed := r.elapsed + 1 }

/-- The granted heaters' second progress, one tick later (R148). -/
def Icu.tick (x : Icu) : Icu :=
  let go (h : Fin 6) : Nat := x.progress.get h + bit (x.grant.contains h)
  { x with progress := #v[go 0, go 1, go 2, go 3, go 4, go 5] }

/-- The serial line, one tick later. -/
def Vlp.tick (v : Vlp) : Vlp :=
  { v with rxSince := v.rxSince + 1, txElapsed := if v.tx.isSome then v.txElapsed + 1 else v.txElapsed }

/-- Every running timer advances by one sample period, and the sample period ends (R9, R43). -/
def tick (s : State) : State :=
  { s with
    pos := { s.pos with gateLeft := s.pos.gateLeft - 1 }
    lcl := s.lcl.periodEnd
    chans := s.chans.map Channel.tick
    sgd := { s.sgd with
      acts := s.sgd.acts.map ActRec.tick, guardKa := countTick s.sgd.guardKa, guardKd := countTick s.sgd.guardKd }
    csq := { s.csq with timer := countTick s.csq.timer }
    icu := s.icu.tick
    evr := { s.evr with lines := s.evr.lines.map fun l => { l with timer := countTick l.timer } }
    vlp := s.vlp.tick }

end Sys2Proof.Machine
end

