-- ==== Sys2Proof/Machine/Dispatch.lean ====
section
/-! DEFINITION. The meaning of each command, one arm per row of spec/opcode_table.json, in the table's order. -/

namespace Sys2Proof.Machine

def exec (i : Instr) (s : State) : Host.Outcome State Fault Refusal :=
  match i with
  | .powerOn => Sys2Proof.Machine.execPowerOn s
  | .axleTransition a b => Sys2Proof.Machine.execAxleTransition a b s
  | .speedIntervalEnd => Sys2Proof.Machine.execSpeedIntervalEnd s
  | .fixCapture => Sys2Proof.Machine.execFixCapture s
  | .fixp q p r w => Sys2Proof.Machine.execFixp q p r w s
  | .mapSweep => Sys2Proof.Machine.execMapSweep s
  | .maps f => Sys2Proof.Machine.execMaps f s
  | .mapd k f => Sys2Proof.Machine.execMapd k f s
  | .mapz k w => Sys2Proof.Machine.execMapz k w s
  | .mapp r g => Sys2Proof.Machine.execMapp r g s
  | .mapc v => Sys2Proof.Machine.execMapc v s
  | .mapr t k => Sys2Proof.Machine.execMapr t k s
  | .mapq r p => Sys2Proof.Machine.execMapq r p s
  | .sampleReceive v => Sys2Proof.Machine.execSampleReceive v s
  | .samplePeriodEnd => Sys2Proof.Machine.execSamplePeriodEnd s
  | .windowEnd => Sys2Proof.Machine.execWindowEnd s
  | .rais c => Sys2Proof.Machine.execRais c s
  | .lowr c => Sys2Proof.Machine.execLowr c s
  | .armc c => Sys2Proof.Machine.execArmc c s
  | .snap c => Sys2Proof.Machine.execSnap c s
  | .isolIsolate c => Sys2Proof.Machine.execIsolIsolate c s
  | .isolRestore c => Sys2Proof.Machine.execIsolRestore c s
  | .ftab h p => Sys2Proof.Machine.execFtab h p s
  | .strokePressEnd n => Sys2Proof.Machine.execStrokePressEnd n s
  | .strokePauseEnd n => Sys2Proof.Machine.execStrokePauseEnd n s
  | .riseTimeout n => Sys2Proof.Machine.execRiseTimeout n s
  | .contactAssert n => Sys2Proof.Machine.execContactAssert n s
  | .contactLoss n => Sys2Proof.Machine.execContactLoss n s
  | .contactTimeout n => Sys2Proof.Machine.execContactTimeout n s
  | .fallTimeout n => Sys2Proof.Machine.execFallTimeout n s
  | .housedAssert n => Sys2Proof.Machine.execHousedAssert n s
  | .housedLoss n => Sys2Proof.Machine.execHousedLoss n s
  | .stripAssert n => Sys2Proof.Machine.execStripAssert n s
  | .emergAssert => Sys2Proof.Machine.execEmergAssert s
  | .emergRelease => Sys2Proof.Machine.execEmergRelease s
  | .airokChange b => Sys2Proof.Machine.execAirokChange b s
  | .settleSample a => Sys2Proof.Machine.execSettleSample a s
  | .positionFeedbackChange a p => Sys2Proof.Machine.execPositionFeedbackChange a p s
  | .travelFeedbackChange a b => Sys2Proof.Machine.execTravelFeedbackChange a b s
  | .motionTimeout a => Sys2Proof.Machine.execMotionTimeout a s
  | .guardTimerEnd p => Sys2Proof.Machine.execGuardTimerEnd p s
  | .fclr a => Sys2Proof.Machine.execFclr a s
  | .brkc => Sys2Proof.Machine.execBrkc s
  | .brko => Sys2Proof.Machine.execBrko s
  | .erthOn => Sys2Proof.Machine.execErthOn s
  | .erthOff => Sys2Proof.Machine.execErthOff s
  | .sels t => Sys2Proof.Machine.execSels t s
  | .peerWaitTimeout => Sys2Proof.Machine.execPeerWaitTimeout s
  | .proveTimeout => Sys2Proof.Machine.execProveTimeout s
  | .chng t => Sys2Proof.Machine.execChng t s
  | .cabt => Sys2Proof.Machine.execCabt s
  | .cack => Sys2Proof.Machine.execCack s
  | .heaterSecond h => Sys2Proof.Machine.execHeaterSecond h s
  | .heat h p t => Sys2Proof.Machine.execHeat h p t s
  | .frstOn => Sys2Proof.Machine.execFrstOn s
  | .frstOff => Sys2Proof.Machine.execFrstOff s
  | .scrpOn => Sys2Proof.Machine.execScrpOn s
  | .scrpOff => Sys2Proof.Machine.execScrpOff s
  | .gtInChange b => Sys2Proof.Machine.execGtInChange b s
  | .rqInChange b => Sys2Proof.Machine.execRqInChange b s
  | .cplInChange b => Sys2Proof.Machine.execCplInChange b s
  | .peerOn => Sys2Proof.Machine.execPeerOn s
  | .peerOff => Sys2Proof.Machine.execPeerOff s
  | .evrtRead t n => Sys2Proof.Machine.execEvrtRead t n s
  | .evrtWriteEvent n f m => Sys2Proof.Machine.execEvrtWriteEvent n f m s
  | .evrtWriteLine n m k => Sys2Proof.Machine.execEvrtWriteLine n m k s
  | .slak m => Sys2Proof.Machine.execSlak m s
  | .pulseEnd l => Sys2Proof.Machine.execPulseEnd l s
  | .frameReceived l => Sys2Proof.Machine.execFrameReceived l s
  | .characterError => Sys2Proof.Machine.execCharacterError s
  | .frameGapTimeout => Sys2Proof.Machine.execFrameGapTimeout s
  | .unknownCommand k t => Sys2Proof.Machine.execUnknownCommand k t s
  | .transmitFrameEnd => Sys2Proof.Machine.execTransmitFrameEnd s
  | .modeRun => Sys2Proof.Machine.execModeRun s
  | .modeStandby => Sys2Proof.Machine.execModeStandby s
  | .rstw => Sys2Proof.Machine.execRstw s
  | .setp n v => Sys2Proof.Machine.execSetp n v s
  | .getp n => Sys2Proof.Machine.execGetp n s
  | .stat => Sys2Proof.Machine.execStat s
  | .stripRelease n => Sys2Proof.Machine.execStripRelease n s
  | .overLongPayloadLength => Sys2Proof.Machine.execOverLongPayloadLength s

end Sys2Proof.Machine
end

