-- ==== Sys2Proof/Safety.lean ====
section
/-! DEFINITION. What the manual promises of the part at every moment, in the terms the statements use. Each is a property
of one state; a run is safe while every state it passes through has them all. -/

namespace Sys2Proof.Machine

open Config

/-- The lists stay within their places: 4 gaps watched (R28), 16 notices queued (R182, R183), 16 arc records in each
channel (R69). -/
def State.withinCapacity (s : State) : Prop :=
  s.rmap.watch.length ≤ watchPlaces ∧ s.evr.queue.length ≤ queuePlaces ∧ ∀ n, (s.ch n).arcs.length ≤ arcPlaces

/-- Every parameter lies in its range (R197, 10.7), with F_min below F_max (R86) and configuration words of the defined
form (R60). -/
def State.parametersHeld (s : State) : Prop :=
  (∀ n, 1 ≤ n → n ≤ 46 → (paramRanges.getD (n - 1) (0, 0)).1 ≤ s.par n ∧ s.par n ≤ (paramRanges.getD (n - 1) (0, 0)).2) ∧
  s.par 16 < s.par 17 ∧ ∀ n, 42 ≤ n → n ≤ 45 → configWord (s.par n) = true

/-- The Position Unit's items stay within the values of section 1.1, with an edge no longer than 20 mm. -/
def State.positionHeld (s : State) : Prop :=
  s.par 1 ≤ 20000 ∧ s.pos.m ≤ maxM ∧ s.pos.u < 1000000 ∧ s.pos.route ≤ maxRoute ∧ s.pos.reversal ≤ 15 ∧
  s.pos.gate ≤ 65535 ∧ s.pos.speed ≤ 4000 ∧ s.pos.slotSeq ≤ 255

/-- R20: no two valid span entries hold the same route and granule; a barred entry is not valid (R21). -/
def State.keysSingle (s : State) : Prop :=
  (∀ i : Fin 40, (s.rmap.spans.get i).barred = true → (s.rmap.spans.get i).valid = false) ∧
  ∀ i j : Fin 40, (s.rmap.spans.get i).valid = true → (s.rmap.spans.get j).valid = true →
    (s.rmap.spans.get i).content.route = (s.rmap.spans.get j).content.route →
    (s.rmap.spans.get i).content.granule = (s.rmap.spans.get j).content.granule → i = j

/-- R28: no two listed gaps have the same gap_lo and gap_hi. -/
def State.gapsSingle (s : State) : Prop := (s.rmap.watch.map fun w => (w.gap.lo, w.gap.hi)).Nodup

/-- R52: the streak stays within 0 to 15, and there is a candidate once it is not 0. -/
def State.streakHeld (s : State) : Prop := s.lcl.streak ≤ 15 ∧ (s.lcl.streak = 0 ↔ s.lcl.candidate = none)

/-- R74: a channel whose drop latch is set is in ISOLATED, DOWN, FALLING or STUCK. -/
def State.latchedLowered (s : State) : Prop := ∀ n, (s.ch n).latch.isSome = true → (s.ch n).state.raised = false

/-- R62: at most one channel holds role COLLECTOR and at most one role SCRAPER. -/
def State.rolesSingle (s : State) : Prop :=
  ∀ r, r ≠ Role.none → ∀ n k, (s.ch n).role = r → (s.ch k).role = r → n = k

/-- R62, R153, R154: the scraper channel is the one that holds role SCRAPER, a channel in DOWN, ISOLATED or STUCK holds no
role, and outside IDLE and ARMED no scraper is raised. -/
def State.scraperHeld (s : State) : Prop :=
  ∀ n, (s.icu.scraper = some n ↔ (s.ch n).role = .scraper) ∧
    ((s.ch n).state.stowed = true ∨ (s.ch n).state = .stuck → (s.ch n).role = .none) ∧
    (s.csq.stage ≠ .idle → s.csq.stage ≠ .armed → (s.ch n).role = .scraper → (s.ch n).state.raised = false)

/-- R84: the force setpoint lies within F_min to F_max in RISING and UP and is 0 outside STROKING, RISING and UP. -/
def State.forcesHeld (s : State) : Prop :=
  s.par 16 ≤ s.par 17 ∧ ∀ n,
    ((s.ch n).state = .rising ∨ (s.ch n).state = .up → s.par 16 ≤ (s.ch n).setpoint ∧ (s.ch n).setpoint ≤ s.par 17) ∧
    ((s.ch n).state.raised = false → (s.ch n).setpoint = 0)

/-- R92: a faulted actuator is confirmed nowhere, in no motion, and has no request pending; MB, KA, KD, RC and the
isolators are commanded OPEN. -/
def State.faultsHeld (s : State) : Prop :=
  ∀ a, (s.act a).fault = true →
    (s.act a).confirmed = .unsure ∧ (s.act a).motion = .none ∧ (s.act a).pending = none ∧
    (fallsOut a = true → (s.act a).commanded = .opened)

/-- R89 to R91: an actuator in motion is confirmed nowhere until the motion ends. -/
def State.motionsHeld (s : State) : Prop := ∀ a, (s.act a).motion ≠ .none → (s.act a).confirmed = .unsure

/-- R99: the path contactors are never both commanded closed. -/
def State.pathsApart (s : State) : Prop := ¬((s.act .ka).commanded = .closed ∧ (s.act .kd).commanded = .closed)

/-- R106: at most one channel isolator is commanded closed. -/
def State.isolatorsSingle (s : State) : Prop :=
  ∀ n k, (s.act (isoOf n)).commanded = .closed → (s.act (isoOf k)).commanded = .closed → n = k

/-- R108, R109: the selected system is that of R101, the condition reasons are as their conditions stand, and MB is
commanded CLOSED only with an empty set and no fault. -/
def State.breakerHeld (s : State) : Prop :=
  s.sgd.selected = s.selectedNow ∧ condReasons s s.sgd.reasons = s.sgd.reasons ∧
  ((s.act .mb).commanded = .closed → s.sgd.reasons.empty = true) ∧
  ((s.act .mb).fault = true → (s.act .mb).commanded = .opened)

/-- R109, R113: reclose-armed is clear while a latched reason is present. -/
def State.armedHeld (s : State) : Prop :=
  s.sgd.armed = true →
    s.sgd.reasons.seqfail = false ∧ s.sgd.reasons.selftrip = false ∧ s.sgd.reasons.hold = false ∧ s.sgd.reasons.weld = false

/-- R110: the confirmed line state equals the selected system, and either exactly one isolator or the roof coupler is
confirmed closed. -/
def State.fedThroughOne (s : State) : Prop :=
  (∃ x, s.sgd.selected = some x ∧ s.lcl.line = .sys x) ∧
  ((∃ n, (s.act (isoOf n)).confirmed = .closed ∧ (s.act .rc).confirmed ≠ .closed ∧
      ∀ k, (s.act (isoOf k)).confirmed = .closed → k = n) ∨
   ((s.act .rc).confirmed = .closed ∧ ∀ k, (s.act (isoOf k)).confirmed ≠ .closed))

/-- R147: the summed rating of granted heaters does not exceed the budget, and the budget is 0 unless MB is commanded and
confirmed CLOSED and the line state is a supply system (R144). -/
def State.heatingHeld (s : State) : Prop :=
  s.ratingSum s.icu.grant ≤ s.icu.budget ∧
  (s.icu.budget ≠ 0 →
    (s.act .mb).commanded = .closed ∧ (s.act .mb).confirmed = .closed ∧ ∃ x, s.lcl.line = .sys x)

/-- R144: the budget that MB and the line state give: P27 to P30 while MB is commanded and confirmed CLOSED on AC25, AC15, DC3
or DC15, and 0 in every other case. -/
def State.budgetDue (s : State) : Nat :=
  if (s.act .mb).commanded = .closed ∧ (s.act .mb).confirmed = .closed then
    match s.lcl.line with
    | .sys .ac25 => s.par 27
    | .sys .ac15 => s.par 28
    | .sys .dc3 => s.par 29
    | .sys .dc15 => s.par 30
    | _ => 0
  else 0

/-- R143, R144, R147: the budget is the one due, and the grant set is what admission gives on the ratings P31 to P36, the budget
and the heat list as they stand. -/
def State.heatingFollowed (s : State) : Prop :=
  s.icu.budget = s.budgetDue ∧ s.icu.grant = admission (fun h => s.par (31 + h.val)) s.icu.budget s.icu.list

/-- R145: one heat list entry for each heater and origin, in order of priority. -/
def State.heatListHeld (s : State) : Prop :=
  (s.icu.list.map fun e => (e.heater, e.origin)).Nodup ∧ s.icu.list.Pairwise fun a b => a.priority ≤ b.priority

/-- 6.1, R134, R142: there is a plan outside IDLE and none in it; the failure reason and SEQFAIL are present in FAILED
and nowhere else. -/
def State.planHeld (s : State) : Prop :=
  (s.csq.stage = .idle ↔ s.csq.plan = none) ∧ (s.csq.stage = .failed ↔ s.csq.failReason.isSome = true) ∧
  (s.csq.stage = .failed ↔ s.sgd.reasons.seqfail = true)

/-- The states a link role has (8.1). -/
def LinkRole.has (r : LinkRole) (x : LinkState) : Bool :=
  match r, x with
  | .alone, .detached => true
  | .junior, .detached => true
  | .junior, .asking => true
  | .junior, .coupling => true
  | .junior, .coupled => true
  | .junior, .uncoupling => true
  | .senior, .holding => true
  | .senior, .granting => true
  | .senior, .withheld => true
  | _, _ => false

/-- 8.1, 8.2, 8.3, R173: the link is in a state of its role; GT is asserted only in GRANTING, RQ not in DETACHED, CPL only
in COUPLED and UNCOUPLING; with the conflict flag set no output is asserted, and the link is HOLDING, DETACHED, or
UNCOUPLING toward DETACHED; and a JUNIOR outside DETACHED has no channel with role COLLECTOR (R64, R169). -/
def State.linkHeld (s : State) : Prop :=
  s.linkRole.has s.rll.state = true ∧ (s.rll.gt = true → s.rll.state = .granting) ∧
  (s.rll.rq = true → s.linkRole = .junior ∧ s.rll.state ≠ .detached) ∧
  (s.rll.cpl = true → s.rll.state = .coupled ∨ s.rll.state = .uncoupling) ∧
  (s.rll.conflict = true →
    s.rll.rq = false ∧ s.rll.gt = false ∧ s.rll.cpl = false ∧
    (s.rll.state = .holding ∨ s.rll.state = .detached ∨ (s.rll.state = .uncoupling ∧ s.rll.detach = true))) ∧
  (s.linkRole = .junior → s.rll.state ≠ .detached → ∀ n, (s.ch n).role ≠ .collector)

/-- R166, R167: a junior in COUPLING or COUPLED has the grant and a coupler without fault, confirmed CLOSED in COUPLED. -/
def State.linkFollowed (s : State) : Prop :=
  s.rll.state = .coupling ∨ s.rll.state = .coupled →
    s.inp.gtIn = true ∧ (s.act .rc).fault = false ∧ (s.rll.state = .coupled → (s.act .rc).confirmed = .closed)

/-- Every promise above. -/
def State.safe (s : State) : Prop :=
  s.withinCapacity ∧ s.parametersHeld ∧ s.positionHeld ∧ s.keysSingle ∧ s.gapsSingle ∧ s.streakHeld ∧ s.latchedLowered ∧
  s.rolesSingle ∧ s.forcesHeld ∧ s.faultsHeld ∧ s.motionsHeld ∧ s.pathsApart ∧ s.isolatorsSingle ∧ s.breakerHeld ∧
  s.armedHeld ∧ s.scraperHeld ∧ s.heatingHeld ∧ s.heatingFollowed ∧ s.heatListHeld ∧ s.planHeld ∧ s.linkHeld ∧ s.linkFollowed

/-! ## Terms of the statements -/

/-- Nothing waits to be handed on and no warm reset is pending: a command row is carried out at once (log entries 2, 8). -/
def State.ready (s : State) : Prop := s.work = [] ∧ s.vlp.resetPending = false

/-- The kind of the command frame of a row that is a command of the vehicle computer (10.9); none for the other rows. -/
def commandKind : Instr → Option Nat
  | .stat => some 0x01
  | .modeRun => some 0x02
  | .modeStandby => some 0x02
  | .rstw => some 0x03
  | .setp .. => some 0x04
  | .getp .. => some 0x05
  | .evrtRead .. => some 0x06
  | .evrtWriteEvent .. => some 0x06
  | .evrtWriteLine .. => some 0x06
  | .slak .. => some 0x07
  | .fixp .. => some 0x10
  | .maps .. => some 0x11
  | .mapd .. => some 0x12
  | .mapz .. => some 0x13
  | .mapp .. => some 0x14
  | .mapc .. => some 0x15
  | .mapr .. => some 0x16
  | .mapq .. => some 0x17
  | .rais .. => some 0x20
  | .lowr .. => some 0x21
  | .armc .. => some 0x22
  | .isolIsolate .. => some 0x23
  | .isolRestore .. => some 0x23
  | .ftab .. => some 0x24
  | .snap .. => some 0x25
  | .brkc => some 0x28
  | .brko => some 0x29
  | .erthOn => some 0x2A
  | .erthOff => some 0x2A
  | .fclr .. => some 0x2B
  | .sels .. => some 0x2C
  | .chng .. => some 0x30
  | .cabt => some 0x31
  | .cack => some 0x32
  | .heat .. => some 0x34
  | .frstOn => some 0x35
  | .frstOff => some 0x35
  | .scrpOn => some 0x36
  | .scrpOff => some 0x36
  | .peerOn => some 0x38
  | .peerOff => some 0x38
  | .powerOn => none
  | .axleTransition .. => none
  | .speedIntervalEnd => none
  | .fixCapture => none
  | .mapSweep => none
  | .sampleReceive .. => none
  | .samplePeriodEnd => none
  | .windowEnd => none
  | .strokePressEnd .. => none
  | .strokePauseEnd .. => none
  | .riseTimeout .. => none
  | .contactAssert .. => none
  | .contactLoss .. => none
  | .contactTimeout .. => none
  | .fallTimeout .. => none
  | .housedAssert .. => none
  | .housedLoss .. => none
  | .stripAssert .. => none
  | .stripRelease .. => none
  | .emergAssert => none
  | .emergRelease => none
  | .airokChange .. => none
  | .settleSample .. => none
  | .positionFeedbackChange .. => none
  | .travelFeedbackChange .. => none
  | .motionTimeout .. => none
  | .guardTimerEnd .. => none
  | .peerWaitTimeout => none
  | .proveTimeout => none
  | .heaterSecond .. => none
  | .gtInChange .. => none
  | .rqInChange .. => none
  | .cplInChange .. => none
  | .pulseEnd .. => none
  | .frameReceived .. => none
  | .characterError => none
  | .frameGapTimeout => none
  | .unknownCommand .. => none
  | .transmitFrameEnd => none
  | .overLongPayloadLength => none

/-- The first offset of a list of fields, each with whether it is out of its range. -/
def firstBad (l : List (Bool × Nat)) : Option Nat := (l.find? (·.1)).map (·.2)

/-- The fields of a record whose first byte is byte `o`, in the order of R19, each with whether it is out of its range. -/
def RawRecord.badFields (r : RawRecord) (o : Nat) : List (Bool × Nat) :=
  let gap : Bool := decide (r.kind.toNat = 1 ∨ r.kind.toNat = 2)
  [(decide (3 < r.kind.toNat), o), (!gap && decide (3 < r.supply.toNat), o + 1),
   (gap && decide (3 < r.supplyLo.toNat), o + 12), (gap && decide (3 < r.supplyHi.toNat), o + 13),
   (decide (2 < r.headFit.toNat), o + 2), (decide (1 < r.ice.toNat), o + 3),
   (gap && decide (4194303 < r.gapLo.toNat), o + 4), (gap && decide (4194303 < r.gapHi.toNat), o + 8),
   (gap && decide (r.gapHi.toNat ≤ r.gapLo.toNat), o + 4), (gap && decide (2000 < r.gapHi.toNat - r.gapLo.toNat), o + 8)]

/-- The fields of MAPS from byte `o` on (R33): route, granule and boundary, then the records. -/
def SpanFields.badFields (f : SpanFields) (o : Nat) : List (Bool × Nat) :=
  [(decide (f.route.toNat = 0 ∨ 4095 < f.route.toNat), o), (decide (16383 < f.granule.toNat), o + 2)] ++
  (match f.tail with
   | none => RawRecord.badFields f.head (o + 5)
   | some (b, t) => (decide (b.toNat = 0), o + 20) :: RawRecord.badFields f.head (o + 5) ++ RawRecord.badFields t (o + 21))

/-- The fields of a WRITE of MAPZ after its variant (R36). -/
def ZoneFields.badFields (z : ZoneFields) : List (Bool × Nat) :=
  [(decide (z.route.toNat = 0 ∨ 4095 < z.route.toNat), 2), (decide (16383 < z.base.toNat), 4),
   (decide (z.sizeCode.toNat < 3 ∨ 10 < z.sizeCode.toNat), 6)] ++ RawRecord.badFields z.record 7

/-- The payload offset of the first field of a command that is out of its range, in the order in which the rules name the
checks (R191, log entry 16); none when every field is in range. -/
def badField : Instr → Option Nat
  | .fixp _ p r w => firstBad [(decide (4194303 < p.toNat), 1), (decide (r.toNat = 0 ∨ 4095 < r.toNat), 5), (decide (1 < w.toNat), 7)]
  | .maps f => firstBad (SpanFields.badFields f 0)
  | .mapd k f => firstBad ((decide (39 < k.toNat), 0) :: SpanFields.badFields f 1)
  | .mapz k none => firstBad [(decide (5 < k.toNat), 0)]
  | .mapz k (some z) => firstBad ((decide (5 < k.toNat), 0) :: ZoneFields.badFields z)
  | .mapp r g => firstBad [(decide (r.toNat = 0 ∨ 4095 < r.toNat), 0), (decide (16383 < g.toNat), 2)]
  | .mapc v => firstBad [(decide (1 < v.toNat), 0)]
  | .mapr t k => firstBad [(decide (1 < t.toNat), 0), (decide (39 < k.toNat ∨ (t.toNat = 1 ∧ 5 < k.toNat)), 1)]
  | .mapq r p => firstBad [(decide (4095 < r.toNat), 0), (decide (4194303 < p.toNat), 2)]
  | .rais c => firstBad [(decide (3 < c.toNat), 0)]
  | .lowr c => firstBad [(decide (3 < c.toNat), 0)]
  | .armc c => firstBad [(decide (3 < c.toNat), 0)]
  | .snap c => firstBad [(decide (3 < c.toNat), 0)]
  | .isolIsolate c => firstBad [(decide (3 < c.toNat), 0)]
  | .isolRestore c => firstBad [(decide (3 < c.toNat), 0)]
  | .ftab h pts =>
      let v (k : Nat) : Nat := (pts.toList[k]?.map (·.speed.toNat)).getD 0
      firstBad ((decide (1 < h.toNat), 0) :: ([0, 1, 2, 3, 4, 5, 6, 7].map fun k => (decide (400 < v k), 1 + 4 * k)) ++
        ([1, 2, 3, 4, 5, 6, 7].map fun k => (decide (v k ≤ v (k - 1)), 1 + 4 * k)))
  | .fclr a => firstBad [(decide (10 < a.toNat), 0)]
  | .sels x => firstBad [(decide (3 < x.toNat ∧ x.toNat ≠ 0xFF), 0)]
  | .chng x => firstBad [(decide (3 < x.toNat), 0)]
  | .heat h p _ => firstBad [(decide (5 < h.toNat), 0), (decide (3 < p.toNat), 1)]
  | .evrtRead x n => firstBad [(decide (1 < x.toNat), 1), (decide (23 < n.toNat ∨ (x.toNat = 1 ∧ 2 < n.toNat)), 2)]
  | .evrtWriteEvent n _ m => firstBad [(decide (23 < n.toNat), 2), (decide (7 < m.toNat), 4)]
  | .evrtWriteLine n m _ => firstBad [(decide (2 < n.toNat), 2), (decide (1 < m.toNat), 3)]
  | .slak m => firstBad [(decide (7 < m.toNat), 0)]
  | .setp n _ => firstBad [(decide (n.toNat = 0 ∨ 46 < n.toNat), 0)]
  | .getp n => firstBad [(decide (n.toNat = 0 ∨ 46 < n.toNat), 0)]
  | .powerOn => none
  | .axleTransition .. => none
  | .speedIntervalEnd => none
  | .fixCapture => none
  | .mapSweep => none
  | .sampleReceive .. => none
  | .samplePeriodEnd => none
  | .windowEnd => none
  | .strokePressEnd .. => none
  | .strokePauseEnd .. => none
  | .riseTimeout .. => none
  | .contactAssert .. => none
  | .contactLoss .. => none
  | .contactTimeout .. => none
  | .fallTimeout .. => none
  | .housedAssert .. => none
  | .housedLoss .. => none
  | .stripAssert .. => none
  | .emergAssert => none
  | .emergRelease => none
  | .airokChange .. => none
  | .settleSample .. => none
  | .positionFeedbackChange .. => none
  | .travelFeedbackChange .. => none
  | .motionTimeout .. => none
  | .guardTimerEnd .. => none
  | .brkc => none
  | .brko => none
  | .erthOn => none
  | .erthOff => none
  | .peerWaitTimeout => none
  | .proveTimeout => none
  | .cabt => none
  | .cack => none
  | .heaterSecond .. => none
  | .frstOn => none
  | .frstOff => none
  | .scrpOn => none
  | .scrpOff => none
  | .gtInChange .. => none
  | .rqInChange .. => none
  | .cplInChange .. => none
  | .peerOn => none
  | .peerOff => none
  | .pulseEnd .. => none
  | .frameReceived .. => none
  | .characterError => none
  | .frameGapTimeout => none
  | .unknownCommand .. => none
  | .transmitFrameEnd => none
  | .modeRun => none
  | .modeStandby => none
  | .rstw => none
  | .stat => none
  | .stripRelease .. => none
  | .overLongPayloadLength => none

/-- The answer frame of a command row: kind plus 0x40, tag 0 (R191, log entry 8). -/
def answerTo (kind : Nat) (a : Answer) : TxFrame := { kind := BitVec.ofNat 8 (kind + 0x40), tag := 0, payload := a.payload }

/-- R190 to R192: the port once the answer `f` is made: behind the answers in hand while a frame is being sent, else the
oldest answer begins to be sent. -/
def Vlp.afterAnswer (v : Vlp) (f : TxFrame) : Vlp :=
  match v.tx, v.inHand with
  | some _, l => { v with carrying := false, inHand := l ++ [f] }
  | none, [] => { v with carrying := false, tx := some f, txElapsed := 0 }
  | none, g :: rest => { v with carrying := false, tx := some g, txElapsed := 0, inHand := rest ++ [f] }

/-- The state with the answer `a` made to a command of the kind, and nothing else changed. -/
def State.answered (s : State) (kind : Nat) (a : Answer) : State := s.withVlp (s.vlp.afterAnswer (answerTo kind a))

/-- The inputs, the Position Unit, the classifier, the force tables, the mode, the parameters and the queue of waiting
commands are those of s: no change handed from block to block reaches them. -/
def State.sameOutside (s t : State) : Prop :=
  t.inp = s.inp ∧ t.pos = s.pos ∧ t.lcl = s.lcl ∧ t.ftabs = s.ftabs ∧ t.mode = s.mode ∧ t.params = s.params ∧
  t.pending = s.pending

/-- No other block is in the midst of anything that a change could set going: no plan, no path change procedure, no roof
line, no scraper up or wanted, and nothing waiting to be handed on. -/
def State.calm (s : State) : Prop :=
  s.work = [] ∧ s.csq.stage = .idle ∧ s.csq.plan = none ∧ s.sgd.proc = none ∧ s.linkRole = .alone ∧
  s.icu.scraper = none ∧ s.icu.scrapeEnable = false ∧ s.par 39 = 0

/-- The map, the sequencer, the link, every channel but n, and every actuator but MB and the isolators are those of s. -/
def State.onlyChannel (n : Fin 4) (s t : State) : Prop :=
  t.rmap = s.rmap ∧ t.csq = s.csq ∧ t.rll = s.rll ∧ (∀ k, k ≠ n → t.ch k = s.ch k) ∧
  t.act .ka = s.act .ka ∧ t.act .kd = s.act .kd ∧ t.act .rc = s.act .rc ∧ t.act .ta = s.act .ta ∧ t.act .td = s.act .td ∧
  t.act .es = s.act .es

/-- The map, the sequencer, the link, and every actuator but `a`, MB and the isolators are those of s. -/
def State.onlyActuator (a : Actuator) (s t : State) : Prop :=
  t.rmap = s.rmap ∧ t.csq = s.csq ∧ t.rll = s.rll ∧ ∀ b, b ≠ a → b ≠ .mb → chanOfIso b = none → t.act b = s.act b

/-- Everything but the Ice Clearing Unit's heating, the Event Router and the Vehicle Link Port is that of s. -/
def State.onlyHeating (s t : State) : Prop :=
  s.sameOutside t ∧ t.rmap = s.rmap ∧ t.chans = s.chans ∧ t.sgd = s.sgd ∧ t.csq = s.csq ∧ t.rll = s.rll ∧
  t.icu.scrapeEnable = s.icu.scrapeEnable ∧ t.icu.inhibit = s.icu.inhibit ∧ t.icu.scraper = s.icu.scraper ∧
  t.icu.demand = s.icu.demand

/-- No notice may be handed over: a frame is being sent, a command is being carried out, or a warm reset is pending. -/
def State.noticesHeld (s : State) : Bool := s.vlp.tx.isSome || s.vlp.carrying || s.vlp.resetPending

/-- A position in micrometres (1.3). -/
def Pos.micro (p : Pos) : Int := 1000000 * p.m + p.u

/-- The highest position in micrometres (R5). -/
def topMicro : Int := 1000000 * 4194303 + 999999

/-- R84: the force setpoint of a channel with the head of channel n and the role r at the present speed. -/
def State.forceFor (s : State) (n : Fin 4) (r : Role) : Nat :=
  let f := tableForce (s.ftab (s.head n)) s.pos.speed + (if r = .scraper then (s.par 18 : Int) else 0)
  (max (s.par 16 : Int) (min (s.par 17 : Int) f)).toNat

/-- R73: the channel as it enters FALLING with a cause. -/
def Channel.fallen (c : Channel) (cause : Cause) (p14 : Nat) : Channel :=
  { c with state := .falling, fallCause := some cause, fall := some (4000 * p14), rise := none, stroke := none
           contact := none, setpoint := 0 }

/-- R74, R79: the channel with its latch set by a protective cause that takes a snapshot. -/
def State.latched (s : State) (n : Fin 4) (cause : Cause) (c : Channel) : Channel :=
  let o := s.ch n
  { c with
    latch := some cause
    snapshot := some
      { cause := cause, m := s.pos.m, speed := s.pos.speed, line := s.lcl.line, prior := o.state, role := o.role
        setpoint := o.setpoint, breaker := (s.act .mb).confirmed, stage := s.csq.stage, consumed := false
        overwrote := (o.snapshot.map fun x => !x.consumed).getD false } }

/-- R74: the channel after a protective drop. -/
def State.dropped (s : State) (n : Fin 4) (cause : Cause) : Channel :=
  s.latched n cause ((s.ch n).fallen cause (s.par 14))

/-- R68: the channel in UP with a role. -/
def State.inContact (s : State) (n : Fin 4) (r : Role) : Channel :=
  { s.ch n with state := .up, role := r, stroke := none, rise := none, contact := none, setpoint := s.forceFor n r }

/-- R64, R67, R68: the channel as an accepted raise leaves it: in its first press, in RISING, or in UP where CONTACT is
asserted already. -/
def State.raisedAs (s : State) (n : Fin 4) (r : Role) : Channel :=
  if s.icu.frost then
    { s.ch n with state := .stroking, role := r, stroke := some { number := 1, press := true, left := 400 * s.par 24 }
                  setpoint := s.par 26 }
  else if s.inp.contact.get n then s.inContact n r
  else { s.ch n with state := .rising, role := r, stroke := none, rise := some (4000 * s.par 13), setpoint := s.forceFor n r }

/-- The nine conditions of R64 on channel n, in table order. -/
def State.raiseConditions (s : State) (n : Fin 4) : List Bool :=
  [(s.ch n).latch.isSome, !s.inp.airok, decide ((s.act .es).confirmed ≠ .opened), s.inp.emerg,
   (match s.sgd.selected with | none => true | some x => !s.allows n x),
   (match s.currentRec with
    | none => false
    | some r =>
      decide (r.stretch.kindCode = 3) ||
      (match r.fit, s.head n with | .narrow, .wide => true | .wide, .narrow => true | _, _ => false)),
   channels.any (fun k => decide (k ≠ n) && decide ((s.ch k).role = .collector)),
   decide (s.par 40 = 2) && decide (s.rll.state ≠ .detached),
   [Stage.opening, .lowering, .switching, .waiting, .raising, .proving, .closing].contains s.csq.stage]

/-- R92: the record of an actuator once it has faulted. -/
def ActRec.faulted (r : ActRec) (a : Actuator) : ActRec :=
  { r with fault := true, confirmed := .unsure, motion := .none, pending := none
           commanded := if a = .ta ∨ a = .td ∨ a = .es then r.commanded else .opened }

/-- R89, R91: the record of an actuator newly commanded, with the settle count read and the feedback as it stands. With a
settle count of 0 a feedback already there confirms at once. -/
def ActRec.moving (r : ActRec) (p : Place) (settle : Nat) (feedback : Place) : ActRec :=
  let there : Bool := decide (settle = 0 ∧ feedback = p)
  { r with
    commanded := p, confirmed := if there then confirmedAt p else .unsure, motion := if there then .none else .settling
    elapsed := 0, settle := settle, pending := none }

/-- R94: the record of an actuator after a request for p that its interlocks admit. -/
def ActRec.requested (r : ActRec) (p : Place) (by_ : Requester) (settle : Nat) (feedback : Place) : ActRec :=
  if r.commanded = p then { r with pending := none }
  else if r.motion = .none then r.moving p settle feedback
  else { r with pending := some (p, by_) }

/-- R90: the one sample of a motion of `a` toward p is due and shows p, with nothing pending and no fault. -/
def State.arrives (s : State) (a : Actuator) (p : Place) : Prop :=
  (s.act a).motion = .settling ∧ (s.act a).settle ≠ 0 ∧ (s.act a).commanded = p ∧ (s.act a).confirmed = .unsure ∧
  s.fb a = p ∧ (s.act a).pending = none ∧ (s.act a).fault = false

/-- R90: the sample of a motion of `a` is due and shows the other position with no travel feedback: a fault NO_MATCH. -/
def State.misses (s : State) (a : Actuator) : Prop :=
  (s.act a).motion = .settling ∧ (s.act a).settle ≠ 0 ∧ s.fb a ≠ (s.act a).commanded ∧ s.travel a = false

/-- The actuator stands commanded and confirmed OPEN. -/
def State.standsOpen (s : State) (a : Actuator) : Prop := (s.act a).confirmed = .opened ∧ (s.act a).commanded = .opened

/-- R127: M has passed the plan's far edge by more than d_clear in the plan's direction. -/
def State.beyond (s : State) (r : PlanRoute) : Bool :=
  match r.dir with
  | .ascending => decide (r.far + s.par 4 < s.pos.m)
  | .descending => decide (s.pos.m + s.par 4 < r.far)

/-- R65: channel n meets every condition of the sequencer's raise request for the system x, and its isolator rests open. -/
def State.raisable (s : State) (n : Fin 4) (x : System) : Prop :=
  (s.ch n).state = .down ∧ (s.ch n).latch = none ∧ s.inp.airok = true ∧ (s.act .es).confirmed = .opened ∧
  s.inp.emerg = false ∧ s.allows n x = true ∧
  (match s.currentRec with | some r => decide (r.stretch.kindCode ≠ 3) && r.fit.admits (s.head n) | none => true) = true ∧
  (∀ k, k ≠ n → (s.ch k).role ≠ .collector) ∧ (s.par 40 ≠ 2 ∨ s.rll.state = .detached) ∧
  (s.act (isoOf n)).confirmed ≠ .closed ∧ (s.act (isoOf n)).fault = false

/-- R24: a probe point that comes to p has crossed into another granule, or to the other side of the boundary of the span
entry that answered last. -/
def Probe.crossed (r : Probe) (p : Int) : Bool :=
  decide (p / 256 ≠ r.point / 256) ||
  (match r.hit.bind (·.boundary) with
   | some b => decide ((b : Int) ≤ p % 256) != decide ((b : Int) ≤ r.point % 256)
   | none => false)

/-- R29: M has passed the gap's far edge by more than d_clear. -/
def State.passed (s : State) (g : GapPart) : Bool :=
  match s.pos.dir with
  | .ascending => decide (g.hi + s.par 4 < s.pos.m)
  | .descending => decide (s.pos.m + s.par 4 < g.lo)

/-- R34: slot k is the one MAPS takes for a key, by the first case that applies; an entry of the key that fails its check
counts as barred (R21). -/
def Rmap.mapsTakes (m : Rmap) (route granule : Nat) (k : Fin 40) : Prop :=
  let e (j : Fin 40) : SpanEntry := m.spans.get j
  let answers (j : Fin 40) : Bool := (e j).hasKey route granule && (e j).intact
  let out (j : Fin 40) : Bool := (e j).barred || ((e j).hasKey route granule && !(e j).intact)
  let free (j : Fin 40) : Bool := !(out j) && !(e j).valid
  let unused (j : Fin 40) : Bool := !(out j) && (e j).valid && !(e j).content.pinned && !(e j).used
  let unpinned (j : Fin 40) : Bool := !(out j) && !(e j).content.pinned
  let first (p : Fin 40 → Bool) : Prop := p k = true ∧ ∀ j, j < k → p j = false
  if ∃ j, answers j = true then first answers
  else if ∃ j, free j = true then first free
  else if ∃ j, unused j = true then first unused
  else first unpinned

/-- Every span entry but that of slot k holds the content it held. -/
def Rmap.othersHeld (m : Rmap) (k : Fin 40) (m' : Rmap) : Prop :=
  ∀ j, j ≠ k → (m'.spans.get j).content = (m.spans.get j).content ∧ (m'.spans.get j).code = (m.spans.get j).code

/-- R190, 10.9: the lengths a command frame of the kind may have; none for a kind that names no command. -/
def commandLengths (kind : Nat) : Option (List Nat) :=
  if [0x01, 0x03, 0x28, 0x29, 0x31, 0x32].contains kind then some [0]
  else if [0x02, 0x05, 0x07, 0x15, 0x20, 0x21, 0x22, 0x25, 0x2A, 0x2B, 0x2C, 0x30, 0x35, 0x36, 0x38].contains kind then some [1]
  else if [0x16, 0x23].contains kind then some [2]
  else if kind = 0x04 then some [3]
  else if [0x14, 0x34].contains kind then some [4]
  else if kind = 0x17 then some [6]
  else if kind = 0x06 then some [7]
  else if kind = 0x10 then some [8]
  else if kind = 0x11 then some [20, 36]
  else if kind = 0x12 then some [21, 37]
  else if kind = 0x13 then some [2, 22]
  else if kind = 0x24 then some [33]
  else none

/-- R190, 10.9: a command kind whose payload has a length it does not allow, or a MAPZ whose length disagrees with its
variant. -/
def wrongLength (kind : Nat) (l : List Byte) : Bool :=
  match commandLengths kind with
  | none => false
  | some ns =>
    !ns.contains l.length ||
    (decide (kind = 0x13) && (decide (l[1]? = some 0) && decide (l.length = 2) || decide (l[1]? = some 1) && decide (l.length = 22)))

/-- The offset at which a payload of the right length carries a variant, operation or target code that 10.9 does not define,
and that no row of the table spells (log entry 19); none where it carries none. -/
def badVariant (kind : Nat) (l : List Byte) : Option Nat :=
  let at_ (k : Nat) : Nat := ((l[k]?).getD 0).toNat
  if [0x02, 0x2A, 0x35, 0x36, 0x38].contains kind then (if 2 ≤ at_ 0 then some 0 else none)
  else if kind = 0x23 then (if 4 ≤ at_ 0 then some 0 else if 2 ≤ at_ 1 then some 1 else none)
  else if kind = 0x13 then (if at_ 1 < 2 then none else if 6 ≤ at_ 0 then some 0 else some 1)
  else if kind = 0x06 then (if 2 ≤ at_ 0 then some 0 else if at_ 0 = 1 ∧ 2 ≤ at_ 1 then some 1 else none)
  else none

/-- R148: the heat list after heater h has counted a second, before an insulator entry is made again. -/
def counted (h : Fin 6) (l : List HeatEntry) : List HeatEntry :=
  (l.map fun e => { e with remaining := if e.heater = h then e.remaining - 1 else e.remaining }).filter fun e =>
    decide (0 < e.remaining)

end Sys2Proof.Machine
end

