-- ==== Sys2Proof/Certificates/Slice0/Obligations.lean ====
section
/-! DEFINITION. The statements for the provers. Each is a claim about the part; the docstring names the rules it says, and
where a clause is the model's choice it names the log entry. -/

section

open Sys2Proof Sys2Proof.Machine

/-! ## Steps -/

/-- One step takes the command at the front of the queue and carries it out on the state with the rest of the queue. -/
def Obligations.StepTakesTheFrontCommand : Prop :=
  ∀ (s : State) (c : Instr) (rest : List Instr), s.pending = c :: rest → step s = exec c (s.withPending rest)

/-- With no command waiting, the row of a timer that has run out is carried out, else one sample period of 250 µs passes:
the period's sample mark is cleared, a period without a sample is missing (R43), the speed interval advances (R9), a rising
channel's timer advances (R68), and no input, position, record or parameter moves. The model's choice, log entry 7. -/
def Obligations.IdleStepRunsTheClock : Prop :=
  ∀ (s : State), s.pending = [] →
    (∀ i, nextDue s = some i → step s = exec i s) ∧
    (nextDue s = none →
      ∃ t, step s = .next t ∧
        t.lcl.sampled = false ∧ t.lcl.missing = (s.lcl.missing || !s.lcl.sampled) ∧
        (if s.lcl.count < 959 then t.lcl.count = s.lcl.count + 1 ∧ t.lcl.endDue = false
         else t.lcl.count = s.lcl.count ∧ t.lcl.endDue = true) ∧
        t.pos = { s.pos with gateLeft := s.pos.gateLeft - 1 } ∧
        (∀ n, t.ch n = { s.ch n with
          stroke := (s.ch n).stroke.map (fun k => { k with left := k.left - 1 })
          rise := (s.ch n).rise.map (· - 1), fall := (s.ch n).fall.map (· - 1)
          contact := (s.ch n).contact.map (fun x => { x with run := x.run + 1 }) }) ∧
        t.csq = { s.csq with timer := s.csq.timer.map (· - 1) } ∧
        t.inp = s.inp ∧ t.rmap = s.rmap ∧ t.ftabs = s.ftabs ∧ t.rll = s.rll ∧ t.mode = s.mode ∧ t.params = s.params ∧
        t.pending = [] ∧ t.work = s.work ∧ t.evr.queue = s.evr.queue ∧ t.icu.list = s.icu.list ∧
        t.sgd.reasons = s.sgd.reasons)

/-- Every command, in every state, has an effect: the part stops on none, and carrying one out leaves the queue of waiting
commands alone. -/
def Obligations.EveryCommandCompletes : Prop :=
  ∀ (s : State) (i : Instr), ∃ t, exec i s = .next t ∧ t.pending = s.pending

/-! ## Invariants that every step keeps -/

/-- R20, R28, R52, R60, R69, R86, R182, R183, R197, 10.7: the watch list, the notice queue and the arc rings stay within their
places; no two valid span entries have the same key and no two listed gaps the same edges; the streak stays within 0 to 15.
Every parameter stays in its range, F_min below F_max, the configuration words of the defined form; and the Position Unit's
items stay within the values of 1.1. -/
def Obligations.TablesAndValuesAreKept : Prop :=
  ∀ (s t : State), step s = .next t →
    (s.withinCapacity → t.withinCapacity) ∧ (s.keysSingle → t.keysSingle) ∧ (s.gapsSingle → t.gapsSingle) ∧
    (s.streakHeld → t.streakHeld) ∧ (s.parametersHeld → t.parametersHeld) ∧ (s.positionHeld → t.positionHeld)

/-- R62, R74, R84, R153: at most one channel holds role COLLECTOR and at most one role SCRAPER, a channel whose drop latch is set is in
ISOLATED, DOWN, FALLING or STUCK, and the setpoint lies within F_min to F_max in RISING and UP and is 0 outside STROKING, RISING
and UP; once every change is handed on, the scraper channel is the one with role SCRAPER, a channel in DOWN, ISOLATED or STUCK
holds no role, and no scraper is raised while the sequencer is outside IDLE and ARMED. -/
def Obligations.ChannelsKeepRolesLatchesAndForces : Prop :=
  ∀ (s t : State), step s = .next t →
    (s.rolesSingle → t.rolesSingle) ∧ (s.latchedLowered → t.latchedLowered) ∧ (s.forcesHeld → t.forcesHeld) ∧
    (s.work = [] → t.work = [] → s.scraperHeld → t.scraperHeld)

/-- R89, R92, R99, R106: a faulted actuator is confirmed nowhere, in no motion and has nothing pending, with MB, KA, KD, RC
and the isolators commanded OPEN, and beside that one in motion is confirmed nowhere; the path contactors are never both
commanded closed; at most one isolator is. -/
def Obligations.SwitchgearStaysApartAndFaultedOut : Prop :=
  ∀ (s t : State), step s = .next t →
    (s.faultsHeld → t.faultsHeld) ∧ (s.faultsHeld ∧ s.motionsHeld → t.faultsHeld ∧ t.motionsHeld) ∧
    (s.pathsApart → t.pathsApart) ∧ (s.isolatorsSingle → t.isolatorsSingle)

/-- R108 to R110, R113: while MB is commanded closed, the reason set is empty, the line state equals the selected system, and
either exactly one isolator or the roof coupler is confirmed closed; and reclose-armed is clear while a latched reason is
present. M lies on the route, as the Position Unit keeps it. -/
def Obligations.ClosedBreakerHasNoReason : Prop :=
  ∀ (s t : State), s.breakerHeld → s.positionHeld → step s = .next t →
    t.breakerHeld ∧ (s.armedHeld → t.armedHeld) ∧
    ((t.act .mb).commanded = .closed → t.sgd.reasons.empty = true ∧ t.fedThroughOne)

/-- R143 to R145, R147: the budget is P27 to P30 by the line state while MB is commanded and confirmed closed on a supply system
and 0 otherwise, and the grant set is what admission gives on the ratings, that budget and the heat list; so the granted
ratings fit the budget. The list holds one entry for each heater and origin in order of priority. -/
def Obligations.HeatingStaysWithinTheBudget : Prop :=
  ∀ (s t : State), step s = .next t →
    (s.heatingHeld → t.heatingHeld) ∧ (s.heatingFollowed → t.heatingFollowed) ∧ (s.heatListHeld → t.heatListHeld)

/-- 6.1, R134, R142; 8.1 to 8.3, R173: a plan stands outside IDLE and none in it, with failure reason and SEQFAIL in FAILED
and nowhere else; the link stays in a state of its role, drives its outputs only in the states that assert them, and drops
them all in a conflict; and a JUNIOR outside DETACHED has no collector (R64, R169). R166, R167: once every change is handed on,
a junior that couples or is coupled has the grant and a coupler without fault. -/
def Obligations.PlanAndLinkStayInTheirStates : Prop :=
  ∀ (s t : State), step s = .next t →
    (s.planHeld → t.planHeld) ∧ (s.linkHeld → t.linkHeld) ∧
    (s.work = [] → t.work = [] → s.linkHeld → s.linkFollowed → t.linkFollowed)

/-- Every promise above holds right after reset. -/
def Obligations.ResetHasEveryPromise : Prop := State.reset.safe

/-! ## Reads and refusals -/

/-- A command with a field outside its range is refused RANGE with the offset of that field, and changes nothing (R12, R19,
R33 to R40, R64, R71, R80 to R85, R93, R104, R139, R146, R178, R181, R191, R197, R198). Of several fields out of range the
first in the order in which the rules name the checks is told; that order is the model's choice where a rule gives none, log
entry 16. A bit of a line mask above bit 2 names another line, log entry 37. -/
def Obligations.FieldsOutOfRangeAreRefused : Prop :=
  ∀ (s : State) (i : Instr) (k : Nat), commandKind i = some k → i.wellFormed = false → s.ready →
    ∃ o, badField i = some o ∧ exec i s = .next (s.answered k (.refused .range o))

/-- R39, R81, R198, R199, 10.9: MAPR, SNAP and GETP answer DONE with what is stored, in both modes, and change nothing; STAT
answers with bytes 1 to 47 of the status record of the state as it stands and clears the link-error and overrun flags, nothing
else. That PASS means a content equal to the one the check code was made over is the model's choice, log entry 3. The 0 of
SNAP's latch byte for a clear latch and the 15 bytes 0 of an empty snapshot are the model's reading of the layout, log entry
18. -/
def Obligations.ReadsAnswerWhatIsStored : Prop :=
  ∀ (s : State) (b c : Byte) (n : Fin 4) (i : Fin 40) (z : Fin 6), s.ready →
    exec (.getp b) s = .next (s.answered 0x05
      (if b.toNat = 0 ∨ 46 < b.toNat then .refused .range 0 else .ok .done (be2 (s.par b.toNat)))) ∧
    (let x := s.ch n
     exec (.snap (BitVec.ofNat 8 n.val)) s = .next (s.answered 0x25
       (.ok .done
         (be1 (match x.latch with | some y => 128 + y.code | none => 0) ++
          (match x.snapshot with
           | none => List.replicate 15 0
           | some y =>
             be1 (1 + 2 * bit y.consumed + 4 * bit y.overwrote) ++ be1 y.cause.code ++ be4 y.m ++ be2 y.speed ++
             be1 y.line.code ++ be1 y.prior.code ++ be1 y.role.code ++ be2 y.setpoint ++ be1 y.breaker.code ++
             be1 y.stage.code))))) ∧
    (4 ≤ b.toNat → exec (.snap b) s = .next (s.answered 0x25 (.refused .range 0))) ∧
    (let e := s.rmap.spans.get i
     exec (.mapr 0 (BitVec.ofNat 8 i.val)) s = .next (s.answered 0x16
       (.ok .done
         (be1 (bit e.valid + 2 * bit e.content.pinned + 4 * bit e.barred + 8 * bit e.used + 16 * bit e.content.tail.isSome) ++
          be1 (if e.content = e.code then 0 else 1) ++ be2 e.content.route ++ be2 e.content.granule ++
          e.content.head.bytes ++
          (match e.content.tail with | some (o, r) => be1 o ++ r.bytes | none => List.replicate 16 0))))) ∧
    (let e := s.rmap.zones.get z
     exec (.mapr 1 (BitVec.ofNat 8 z.val)) s = .next (s.answered 0x16
       (.ok .done
         (be1 (bit e.valid) ++ be1 (if e.content = e.code then 0 else 1) ++ be2 e.content.route ++ be2 e.content.base ++
          be1 e.content.sizeCode ++ e.content.record.bytes)))) ∧
    (2 ≤ b.toNat → exec (.mapr b c) s = .next (s.answered 0x16 (.refused .range 0))) ∧
    (40 ≤ c.toNat → exec (.mapr 0 c) s = .next (s.answered 0x16 (.refused .range 1))) ∧
    (6 ≤ c.toNat → exec (.mapr 1 c) s = .next (s.answered 0x16 (.refused .range 1))) ∧
    (let b0 : Bool → Nat := bit
     let r := s.sgd.reasons
     let k := s.csq
     let x := s.icu
     let l (j : Fin 3) : SignalLine := s.evr.lines.get j
     let half : Option Nat → Nat := fun o => o.getD 0xF
     let record : List Byte :=
       be1 (b0 (decide (s.mode = .standby)) + 2 * b0 s.vlp.linkError + 4 * b0 s.vlp.overrun + 8 * b0 s.evr.lost +
         16 * b0 s.pos.range + 32 * b0 s.rmap.short + 64 * b0 (decide (s.pos.dir = .descending)) +
         128 * b0 (decide (s.pos.sense = .minus))) ++
       be1 s.lcl.line.code ++ be1 ((s.lcl.candidate.map (·.code)).getD 0xFF) ++ be1 s.lcl.streak ++
       be1 ((s.sgd.selected.map (·.code)).getD 0xFF) ++
       be2 (b0 r.line + 2 * b0 r.gap + 4 * b0 r.seq + 8 * b0 r.seqfail + 16 * b0 r.emerg + 32 * b0 r.drop + 64 * b0 r.earth +
         128 * b0 r.selftrip + 256 * b0 r.hold + 512 * b0 r.stby + 1024 * b0 r.peer + 2048 * b0 r.weld) ++
       (([.mb, .ka, .kd, .rc, .ta, .td, .es, .is0, .is1, .is2, .is3] : List Actuator).flatMap fun a =>
         let y := s.act a
         be1 (b0 (decide (y.commanded = .closed)) + 2 * y.confirmed.code + 8 * y.motion.code + 32 * b0 y.fault +
           64 * b0 y.pending.isSome + 128 * b0 (decide (a = .mb) && s.sgd.armed))) ++
       (([0, 1, 2, 3] : List (Fin 4)).flatMap fun j =>
         let y := s.ch j
         be1 (y.state.code + 8 * y.role.code + 32 * b0 y.latch.isSome + 64 * b0 y.suspect + 128 * (y.setpoint / 256 % 2)) ++
           be1 (y.setpoint % 256)) ++
       be1 (k.stage.code + 16 * holdCode s.highestHold) ++
       be1 (half (k.plan.map fun y => y.target.code) + 16 * half ((k.plan.bind (·.tgt)).map (·.val))) ++ be1 x.budget ++
       be1 (b0 (x.grant.contains 0) + 2 * b0 (x.grant.contains 1) + 4 * b0 (x.grant.contains 2) + 8 * b0 (x.grant.contains 3) +
         16 * b0 (x.grant.contains 4) + 32 * b0 (x.grant.contains 5) + 64 * b0 x.frost + 128 * b0 x.inhibit) ++
       be1 (half (x.scraper.map (·.val)) + 16 * b0 x.scrapeEnable) ++
       be2 s.pos.route ++ be4 s.pos.m ++ be2 s.pos.speed ++
       be1 (match s.currentRec with
         | none => 0
         | some y =>
           128 + 64 * b0 y.ice + 16 * y.fit.code +
           (match y.stretch with
            | .openLine z => 4 * z.code
            | .phaseGap _ => 1
            | .systemGap _ => 2
            | .lowerZone z => 3 + 4 * z.code)) ++
       be1 (s.linkRole.code + 4 * s.rll.state.code + 32 * b0 s.rll.conflict) ++
       be1 (b0 s.rll.rq + 2 * b0 s.rll.gt + 4 * b0 s.rll.cpl + 8 * b0 s.inp.rqIn + 16 * b0 s.inp.gtIn + 32 * b0 s.inp.cplIn) ++
       be1 (b0 (l 0).active + 2 * b0 (l 1).active + 4 * b0 (l 2).active + 8 * b0 (l 0).latch + 16 * b0 (l 1).latch +
         32 * b0 (l 2).latch) ++
       be1 s.evr.queue.length ++ be1 ((l 0).first.getD 0xFF) ++ be1 ((l 1).first.getD 0xFF) ++ be1 ((l 2).first.getD 0xFF)
     record.length = 47 ∧
     exec .stat s = .next
       ((s.withVlp { s.vlp with linkError := false, overrun := false }).answered 0x01 (.ok .done record)))

/-- R22, R23, R40: MAPQ changes nothing and answers what a lookup at the point gives: a valid, unbarred, intact span entry
of the key, by its head before the boundary and its tail from it on; else the lowest zone that covers the granule; else a
miss. Which failed entry it names, of those the lookup meets in slot order, and the lowest span slot of several of the key, are
the model's choice, log entry 48. -/
def Obligations.MapqAnswersTheLookup : Prop :=
  ∀ (s : State) (route : Half) (point : Quad), s.ready → route.toNat ≤ 4095 → point.toNat ≤ 4194303 →
    let g := point.toNat / 256
    let span (k : Fin 40) : Bool :=
      decide (route.toNat ≠ 0) && (s.rmap.spans.get k).hasKey route.toNat g && (s.rmap.spans.get k).intact
    let zone (k : Fin 6) : Bool :=
      decide (route.toNat ≠ 0) && (s.rmap.zones.get k).covers route.toNat g && (s.rmap.zones.get k).intact
    let failed : Byte := BitVec.ofNat 8 (slotRefCode (lookup s.rmap route.toNat (point.toNat : Int)).firstFailed)
    (∀ k, span k = true → (∀ j, j < k → span j = false) →
        exec (.mapq route point) s = .next (s.answered 0x17 (.ok .done (
          match (s.rmap.spans.get k).content.tail with
          | none => [1, BitVec.ofNat 8 k.val, failed] ++ (s.rmap.spans.get k).content.head.bytes
          | some (b, r) =>
            if point.toNat % 256 < b then [1, BitVec.ofNat 8 k.val, failed] ++ (s.rmap.spans.get k).content.head.bytes
            else [1, BitVec.ofNat 8 (64 + k.val), failed] ++ r.bytes)))) ∧
      ((∀ k, span k = false) →
        (∀ k, zone k = true → (∀ j, j < k → zone j = false) →
          exec (.mapq route point) s = .next (s.answered 0x17
            (.ok .done ([1, BitVec.ofNat 8 (128 + k.val), failed] ++ (s.rmap.zones.get k).content.record.bytes)))) ∧
        ((∀ k, zone k = false) →
          exec (.mapq route point) s = .next (s.answered 0x17
            (.ok .done ([0, 0xFF, failed] ++ List.replicate 15 0)))))

/-! ## Route Map -/

/-- R20, R33, R34: MAPS with its fields in range is refused KIND for a record its kind checks refuse, and otherwise writes
the entry of the first case of R34 and answers its slot, or is refused FULL with nothing written. The written entry is valid,
unbarred and passes its check; every other entry keeps its content. That a failed entry its search bars stays barred under FULL
is the model's choice, log entry 40. -/
def Obligations.MapsWritesTheSlotItChooses : Prop :=
  ∀ (s : State) (f : SpanFields), s.ready → (Instr.maps f).wellFormed = true →
    let c := SpanFields.content f
    (c.kindsOk = false → exec (.maps f) s = .next (s.answered 0x11 (.refused .kind 0))) ∧
    (c.kindsOk = true →
      (∀ k, s.rmap.mapsTakes c.route c.granule k →
        ∃ t, exec (.maps f) s = .next t ∧ s.sameOutside t ∧
          t.vlp = s.vlp.afterAnswer (answerTo 0x11 (.ok .done (be1 k.val))) ∧
          (t.rmap.spans.get k).valid = true ∧ (t.rmap.spans.get k).barred = false ∧
          (t.rmap.spans.get k).content = c ∧ (t.rmap.spans.get k).code = c ∧ s.rmap.othersHeld k t.rmap) ∧
      ((∀ k, ¬ s.rmap.mapsTakes c.route c.granule k) →
        ∃ t, exec (.maps f) s = .next t ∧ s.sameOutside t ∧
          t.vlp = s.vlp.afterAnswer (answerTo 0x11 (.refused .full 0)) ∧
          (∀ j, (t.rmap.spans.get j).content = (s.rmap.spans.get j).content) ∧ t.rmap.zones = s.rmap.zones ∧
          t.rmap.current = s.rmap.current ∧ t.rmap.watch = s.rmap.watch ∧ t.rmap.short = s.rmap.short ∧
          t.chans = s.chans ∧ t.sgd = s.sgd ∧ t.csq = s.csq ∧ t.icu = s.icu ∧ t.rll = s.rll))

/-- R20, R35: MAPD with its fields in range is refused KIND for a record its kind checks refuse; otherwise it writes the
named slot whatever it holds, invalidates and unpins the other valid entry of its key, and answers that slot or none. R36: MAPZ
CLEAR invalidates its zone, with no more when it was invalid; WRITE with its fields in range is refused ALIGN for a base that is
no multiple of 2^k, then KIND for a gap kind, and otherwise replaces the zone. -/
def Obligations.MapdAndMapzWriteTheirSlots : Prop :=
  ∀ (s : State) (k : Fin 40) (f : SpanFields) (z : Fin 6) (x : ZoneFields), s.ready →
    (s.keysSingle → f.inRange = true →
      let c := SpanFields.content f
      let i := Instr.mapd (BitVec.ofNat 8 k.val) f
      let other (j : Fin 40) : Bool := decide (j ≠ k) && (s.rmap.spans.get j).hasKey c.route c.granule && (s.rmap.spans.get j).intact
      (c.kindsOk = false → exec i s = .next (s.answered 0x12 (.refused .kind 0))) ∧
      (c.kindsOk = true →
        ∃ t, exec i s = .next t ∧ s.sameOutside t ∧
          (t.rmap.spans.get k).valid = true ∧ (t.rmap.spans.get k).barred = false ∧
          (t.rmap.spans.get k).content = c ∧ (t.rmap.spans.get k).code = c ∧
          (∀ j, other j = true →
            t.vlp = s.vlp.afterAnswer (answerTo 0x12 (.ok .done (be1 j.val))) ∧ (t.rmap.spans.get j).valid = false ∧
            (t.rmap.spans.get j).content = { (s.rmap.spans.get j).content with pinned := false }) ∧
          (∀ j, j ≠ k → other j = false → (t.rmap.spans.get j).content = (s.rmap.spans.get j).content) ∧
          ((∀ j, other j = false) → t.vlp = s.vlp.afterAnswer (answerTo 0x12 (.ok .done (be1 0xFF)))))) ∧
    (∃ t, exec (.mapz (BitVec.ofNat 8 z.val) none) s = .next t ∧ s.sameOutside t ∧
      t.vlp = s.vlp.afterAnswer (answerTo 0x13 (.ok .done [])) ∧ (t.rmap.zones.get z).valid = false ∧
      (∀ j, (t.rmap.zones.get j).content = (s.rmap.zones.get j).content)) ∧
    ((s.rmap.zones.get z).valid = false →
      exec (.mapz (BitVec.ofNat 8 z.val) none) s = .next (s.answered 0x13 (.ok .done []))) ∧
    (x.inRange = true →
      let i := Instr.mapz (BitVec.ofNat 8 z.val) (some x)
      let c := ZoneFields.content x
      if c.base % 2 ^ c.sizeCode ≠ 0 then exec i s = .next (s.answered 0x13 (.refused .align 0))
      else if x.record.kind.toNat = 1 ∨ x.record.kind.toNat = 2 then exec i s = .next (s.answered 0x13 (.refused .kind 0))
      else
        ∃ t, exec i s = .next t ∧ s.sameOutside t ∧ t.vlp = s.vlp.afterAnswer (answerTo 0x13 (.ok .done [])) ∧
          t.rmap.zones.get z = { valid := true, content := c, code := c } ∧
          (∀ j, j ≠ z → (t.rmap.zones.get j).content = (s.rmap.zones.get j).content) ∧
          (∀ j, (t.rmap.spans.get j).content = (s.rmap.spans.get j).content))

/-- R37, R38: MAPP invalidates and unpins the valid, unbarred, intact entry of its key and answers its slot, or answers none;
MAPC UNPINNED invalidates the unpinned entries and leaves the pinned ones that pass their check valid, MAPC ALL invalidates all
of them with every pinned flag cleared, and each answers how many. Under both every barred flag stays; only a valid pinned
entry that the re-probe after UNPINNED finds failed is barred then (R21). The stored content of the zones stays. -/
def Obligations.MappAndMapcInvalidateEntries : Prop :=
  ∀ (s : State) (route granule : Half), s.ready → s.keysSingle →
    1 ≤ route.toNat → route.toNat ≤ 4095 → granule.toNat ≤ 16383 →
    let hit (j : Fin 40) : Bool := (s.rmap.spans.get j).hasKey route.toNat granule.toNat && (s.rmap.spans.get j).intact
    let valid (l : List SpanEntry) : Nat := (l.filter (·.valid)).length
    (∃ t, exec (.mapp route granule) s = .next t ∧ s.sameOutside t ∧
      (∀ j, hit j = true →
        t.vlp = s.vlp.afterAnswer (answerTo 0x14 (.ok .done (be1 j.val))) ∧ (t.rmap.spans.get j).valid = false ∧
        (t.rmap.spans.get j).content = { (s.rmap.spans.get j).content with pinned := false }) ∧
      (∀ j, hit j = false → (t.rmap.spans.get j).content = (s.rmap.spans.get j).content) ∧
      ((∀ j, hit j = false) →
        t.vlp = s.vlp.afterAnswer (answerTo 0x14 (.ok .done (be1 0xFF))) ∧ t.rmap.current = s.rmap.current ∧
        t.rmap.watch = s.rmap.watch)) ∧
    (∃ t, exec (.mapc 0) s = .next t ∧ s.sameOutside t ∧
      t.vlp = s.vlp.afterAnswer (answerTo 0x15
        (.ok .done (be1 (valid (s.rmap.spans.toList.filter (!·.content.pinned)))))) ∧
      (∀ j, (s.rmap.spans.get j).content.pinned = false →
        (t.rmap.spans.get j).valid = false ∧ (t.rmap.spans.get j).barred = (s.rmap.spans.get j).barred) ∧
      (∀ j, (s.rmap.spans.get j).content.pinned = true → (s.rmap.spans.get j).content = (s.rmap.spans.get j).code →
        (t.rmap.spans.get j).valid = (s.rmap.spans.get j).valid ∧ (t.rmap.spans.get j).barred = (s.rmap.spans.get j).barred) ∧
      (∀ j, (s.rmap.spans.get j).barred = true → (t.rmap.spans.get j).barred = true) ∧
      (∀ j, (t.rmap.spans.get j).barred = true → (s.rmap.spans.get j).barred = true ∨ (s.rmap.spans.get j).valid = true) ∧
      (∀ j, (t.rmap.spans.get j).content = (s.rmap.spans.get j).content) ∧
      (∀ j, (t.rmap.zones.get j).content = (s.rmap.zones.get j).content)) ∧
    (∃ t, exec (.mapc 1) s = .next t ∧ s.sameOutside t ∧
      t.vlp = s.vlp.afterAnswer (answerTo 0x15 (.ok .done (be1 (valid s.rmap.spans.toList)))) ∧
      (∀ j, (t.rmap.spans.get j).valid = false ∧ (t.rmap.spans.get j).used = false ∧
        (t.rmap.spans.get j).barred = (s.rmap.spans.get j).barred ∧
        (t.rmap.spans.get j).content = { (s.rmap.spans.get j).content with pinned := false }) ∧
      (∀ j, (t.rmap.zones.get j).content = (s.rmap.zones.get j).content))

/-- R24 to R31: a round of re-probe and sweep leaves CURRENT with what the lookup at M gives and AHEAD with what the lookup at
the announcement distance gives, each a miss while RANGE is set; the stored contents stay. With M on the route, the watch list
then holds gaps found on the stretch from M to the AHEAD point that M has not passed, in the order of their approach edges; a
gap found and not passed is missing from it only when it holds four, each met before it; and SHORT is set when a point of the
stretch missed, the AHEAD point lies outside the route, or a gap was refused. A counted edge that changes M leaves no passed
gap listed, and one that does not turn the travel direction leaves the others listed. A gap found is tested with P04 as it
stands: for a sweep between a write of P04 and the next change of M that is the model's choice, log entry 41 (R29). -/
def Obligations.MapSweepProbesBothPoints : Prop :=
  ∀ (s : State), s.work = [] →
    let up : Bool := decide (s.pos.dir = .ascending)
    let m : Int := s.pos.m
    let ahead : Int := if up then m + s.par 2 else m - s.par 2
    let hit (p : Int) : Option ProbeHit := if s.pos.range then none else (lookup s.rmap s.pos.route p).hit
    (∃ t, exec .mapSweep s = .next t ∧ s.sameOutside t ∧
      t.rmap.current = { point := m, hit := hit m } ∧ t.rmap.ahead = { point := ahead, hit := hit ahead } ∧
      (∀ j, (t.rmap.spans.get j).content = (s.rmap.spans.get j).content) ∧
      (∀ j, (t.rmap.zones.get j).content = (s.rmap.zones.get j).content) ∧
      t.rmap.watch.length ≤ 4 ∧
      (s.pos.m ≤ 4194303 →
        let on (p : Int) : Prop := 0 ≤ p ∧ p ≤ 4194303 ∧ min m ahead ≤ p ∧ p ≤ max m ahead
        let before (p q : Int) : Prop := if up then p < q else q < p
        let gap (p : Int) : Option WatchGap := (hit p).bind (·.record.watch)
        let listed (w : WatchGap) : Prop := ∃ x ∈ t.rmap.watch, x.gap.lo = w.gap.lo ∧ x.gap.hi = w.gap.hi
        let refused (w : WatchGap) (p : Int) : Prop := on p ∧ gap p = some w ∧ s.passed w.gap = false ∧ ¬ listed w
        (∀ w ∈ t.rmap.watch, s.passed w.gap = false ∧ ∃ p, on p ∧ gap p = some w) ∧
        (t.rmap.watch.Pairwise fun a b =>
          if up then a.gap.lo < b.gap.lo ∨ (a.gap.lo = b.gap.lo ∧ a.gap.hi < b.gap.hi)
          else b.gap.hi < a.gap.hi ∨ (a.gap.hi = b.gap.hi ∧ b.gap.lo < a.gap.lo)) ∧
        (∀ w p, refused w p → t.rmap.watch.length = 4 ∧ ∀ x ∈ t.rmap.watch, ∃ q, on q ∧ gap q = some x ∧ before q p) ∧
        (t.rmap.short = true ↔
          (∃ p, on p ∧ hit p = none) ∨ ahead < 0 ∨ 4194303 < ahead ∨ ∃ w p, refused w p))) ∧
    (∀ (a b : Bool) (t : State), s.positionHeld → exec (.axleTransition a b) s = .next t → t.pos.m ≠ s.pos.m →
      (∀ w ∈ t.rmap.watch, t.passed w.gap = false) ∧
      (t.pos.dir = s.pos.dir → ∀ w ∈ s.rmap.watch, t.passed w.gap = false → w ∈ t.rmap.watch))

/-- R4, R5, R24, R25, R31: with M, the travel direction and RANGE unchanged the map stays. A change of M probes CURRENT at M, and
AHEAD at the announcement distance, exactly where that point crosses into another granule or to the other side of the boundary
of the span entry that answered it last; a reversal, and RANGE set at a limit, probe both. Each probe gives what the lookup at
its point gives, a miss while RANGE is set. -/
def Obligations.ProbesFollowTheCrossings : Prop :=
  ∀ (s : State) (a b : Bool), s.work = [] → s.positionHeld →
    ∃ t, exec (.axleTransition a b) s = .next t ∧
      let m : Int := t.pos.m
      let ahead : Int := if t.pos.dir = .ascending then m + s.par 2 else m - s.par 2
      let probed (p : Int) : Probe :=
        { point := p, hit := if t.pos.range then none else (lookup s.rmap s.pos.route p).hit }
      let same := t.pos.dir = s.pos.dir ∧ t.pos.range = s.pos.range
      (same → t.pos.m = s.pos.m → t.rmap = s.rmap) ∧
      (same → t.pos.m ≠ s.pos.m →
        t.rmap.current = (if s.rmap.current.crossed m then probed m else s.rmap.current) ∧
        t.rmap.ahead = (if s.rmap.ahead.crossed ahead then probed ahead else s.rmap.ahead)) ∧
      (¬ same → t.rmap.current = probed m ∧ t.rmap.ahead = probed ahead) ∧
      (∀ j, (t.rmap.spans.get j).content = (s.rmap.spans.get j).content) ∧
      (∀ j, (t.rmap.zones.get j).content = (s.rmap.zones.get j).content)

/-! ## Position Unit -/

/-- R1, R3, R4, R5, R7: a single-phase change is one edge. It moves the position by the edge length in its route sense, held
at the limits with RANGE set, counts in the gate, becomes the phase reference, and is debounced over 16 edges. -/
def Obligations.AxleEdgeMovesThePosition : Prop :=
  ∀ (s : State) (a b forward : Bool), s.positionHeld →
    (if forward then quadPlace a b = (quadPlace s.pos.phaseA s.pos.phaseB + 1) % 4
     else quadPlace s.pos.phaseA s.pos.phaseB = (quadPlace a b + 1) % 4) →
    let d : Dir := if forward = decide (s.pos.sense = .plus) then .ascending else .descending
    let sum : Int := if d = .ascending then s.pos.micro + s.par 1 else s.pos.micro - s.par 1
    ∃ t, exec (.axleTransition a b) s = .next t ∧
      t.pos.micro = max 0 (min topMicro sum) ∧ t.pos.u < 1000000 ∧
      t.pos.range = (s.pos.range || decide (sum < 0) || decide (topMicro < sum)) ∧
      t.pos.phaseA = a ∧ t.pos.phaseB = b ∧ t.pos.gate = min 65535 (s.pos.gate + 1) ∧
      (d = s.pos.dir → t.pos.dir = s.pos.dir ∧ t.pos.reversal = 0) ∧
      (d ≠ s.pos.dir → s.pos.reversal < 15 → t.pos.dir = s.pos.dir ∧ t.pos.reversal = s.pos.reversal + 1) ∧
      (d ≠ s.pos.dir → s.pos.reversal = 15 → t.pos.dir = d ∧ t.pos.reversal = 0) ∧
      t.pos.route = s.pos.route ∧ t.pos.sense = s.pos.sense ∧ t.pos.speed = s.pos.speed ∧ t.pos.slot = s.pos.slot ∧
      t.pos.slotSeq = s.pos.slotSeq ∧ t.pos.gateLeft = s.pos.gateLeft ∧
      t.inp = s.inp ∧ t.lcl = s.lcl ∧ t.ftabs = s.ftabs ∧ t.mode = s.mode ∧ t.params = s.params ∧ t.pending = s.pending

/-- R2: a transition in which both phases change together is not counted; the pair becomes the phase reference and
ODO_GLITCH is raised once with M. -/
def Obligations.InvalidTransitionIsNotCounted : Prop :=
  ∀ (s : State),
    exec (.axleTransition (!s.pos.phaseA) (!s.pos.phaseB)) s =
      .next (raise (.odoGlitch s.pos.m) (s.withPos { s.pos with phaseA := !s.pos.phaseA, phaseB := !s.pos.phaseB })) ∧
    exec (.axleTransition s.pos.phaseA s.pos.phaseB) s = .next s

/-- R9, R11: at the end of a speed interval the speed becomes the floor of E × L × 9 / 50,000, held at 4,000, and E is 0; a
fix capture takes M, U and the next sequence number. That the row ends the interval in course whatever time is left of it is
the model's choice, log entry 11. -/
def Obligations.SpeedAndCaptureAreTaken : Prop :=
  ∀ (s : State),
    (∃ t, exec .speedIntervalEnd s = .next t ∧
      t.pos = { s.pos with speed := min 4000 (s.pos.gate * s.par 1 * 9 / 50000), gate := 0, gateLeft := 800 } ∧
      t.inp = s.inp ∧ t.lcl = s.lcl ∧ t.ftabs = s.ftabs ∧ t.mode = s.mode ∧ t.params = s.params ∧ t.pending = s.pending) ∧
    (∃ t, exec .fixCapture s = .next t ∧
      t.pos = { s.pos with slotSeq := (s.pos.slotSeq + 1) % 256, slot := some { m := s.pos.m, u := s.pos.u } } ∧
      t.inp = s.inp ∧ t.rmap = s.rmap ∧ t.lcl = s.lcl ∧ t.chans = s.chans ∧ t.ftabs = s.ftabs ∧ t.sgd = s.sgd ∧
      t.csq = s.csq ∧ t.icu = s.icu ∧ t.rll = s.rll ∧ t.mode = s.mode ∧ t.params = s.params ∧ t.pending = s.pending ∧
      t.work = s.work)

/-- R12 to R16: FIXP with its fields in range is refused STALE when the slot is empty or holds another number; otherwise it
shifts M by the fix offset, clamped with RANGE set, takes route and sense, turns the travel direction with a changed sense,
ends the reversal run and empties the slot. -/
def Obligations.FixpShiftsThePosition : Prop :=
  ∀ (s : State) (seq : Byte) (p : Quad) (r : Half) (w : Byte), s.ready → (Instr.fixp seq p r w).wellFormed = true →
    let sense : Sense := if w.toNat = 0 then .plus else .minus
    (s.pos.slot = none → exec (.fixp seq p r w) s = .next (s.answered 0x10 (.refused .stale s.pos.slotSeq))) ∧
    (∀ y, s.pos.slot = some y →
      (seq.toNat ≠ s.pos.slotSeq →
        exec (.fixp seq p r w) s = .next (s.answered 0x10 (.refused .stale (256 + s.pos.slotSeq)))) ∧
      (seq.toNat = s.pos.slotSeq →
        let sum : Int := (s.pos.m : Int) + ((p.toNat : Int) - y.m)
        ∃ t, exec (.fixp seq p r w) s = .next t ∧
          t.vlp = s.vlp.afterAnswer (answerTo 0x10 (.ok .done [])) ∧
          (t.pos.m : Int) = max 0 (min 4194303 sum) ∧ t.pos.u = s.pos.u ∧
          t.pos.range = (decide (sum < 0) || decide (4194303 < sum)) ∧
          t.pos.route = r.toNat ∧ t.pos.sense = sense ∧
          (t.pos.dir = s.pos.dir ↔ sense = s.pos.sense) ∧ t.pos.reversal = 0 ∧ t.pos.slot = none ∧
          t.pos.slotSeq = s.pos.slotSeq ∧ t.pos.gate = s.pos.gate ∧ t.pos.speed = s.pos.speed ∧
          t.inp = s.inp ∧ t.lcl = s.lcl ∧ t.ftabs = s.ftabs ∧ t.mode = s.mode ∧ t.params = s.params ∧
          t.pending = s.pending))

/-! ## Line Classifier -/

/-- R43, R45, R46: a period's first sample is summed exactly and offered to the crossing detector with the hysteresis P08; a
second is discarded. A period's end counts it, marks the window for a missing sample, and after the 960th the window waits
for its evaluation, which comes before the next sample or period (log entry 6). -/
def Obligations.SamplesAreSummedOnceAPeriod : Prop :=
  ∀ (s : State) (v : Half),
    (s.lcl.endDue = true →
      ∃ u, exec .windowEnd s = .next u ∧ u.lcl.endDue = false ∧ u.lcl.count = 0 ∧ u.lcl.sampled = false ∧
        exec (.sampleReceive v) s = exec (.sampleReceive v) u ∧ exec .samplePeriodEnd s = exec .samplePeriodEnd u) ∧
    (s.lcl.endDue = false →
      let x : Int := v.toInt
      let h : Int := s.par 8
      (s.lcl.sampled = true → exec (.sampleReceive v) s = .next s) ∧
      (s.lcl.sampled = false →
        exec (.sampleReceive v) s = .next (s.withLcl
          { s.lcl with
            sampled := true, s1 := s.lcl.s1 + x, s2 := s.lcl.s2 + x.natAbs * x.natAbs
            c := if x = 32767 ∨ x = -32768 then s.lcl.c + 1 else s.lcl.c
            cross := if h ≤ x then .pos else if x ≤ -h then .neg else s.lcl.cross
            z := if (h ≤ x ∧ s.lcl.cross = .neg) ∨ (x < h ∧ x ≤ -h ∧ s.lcl.cross = .pos) then s.lcl.z + 1 else s.lcl.z })) ∧
      (exec .samplePeriodEnd s = .next (s.withLcl
        (if s.lcl.count < 959 then
           { s.lcl with missing := s.lcl.missing || !s.lcl.sampled, sampled := false, count := s.lcl.count + 1 }
         else { s.lcl with missing := s.lcl.missing || !s.lcl.sampled, sampled := false, endDue := true }))))

/-- R44, R47, R52, R53: the end of a window starts the next one from cleared sums, restores the crossing state of a missing
window, takes the result into candidate and streak, and confirms it once the streak meets its threshold. The row ends a window
whose 960th period has ended. Before the 960th period it changes nothing, and within it it is that period's end too: both are
the model's choice, log entry 6. -/
def Obligations.WindowEndConfirmsTheLine : Prop :=
  ∀ (s : State),
    (s.lcl.endDue = false → s.lcl.count < 959 → exec .windowEnd s = .next s) ∧
    (s.lcl.endDue = false → 959 ≤ s.lcl.count →
      ∃ u, exec .samplePeriodEnd s = .next u ∧ u.lcl.endDue = true ∧ exec .windowEnd s = exec .windowEnd u) ∧
    (s.lcl.endDue = true → ∃ t, exec .windowEnd s = .next t ∧
      t.lcl.count = 0 ∧ t.lcl.s1 = 0 ∧ t.lcl.s2 = 0 ∧ t.lcl.c = 0 ∧ t.lcl.z = 0 ∧ t.lcl.missing = false ∧
      t.lcl.endDue = false ∧ t.lcl.sampled = false ∧
      t.lcl.cross = (if s.lcl.missing then s.lcl.crossStart else s.lcl.cross) ∧ t.lcl.crossStart = t.lcl.cross ∧
      (s.lcl.missing = true →
        t.lcl.last = some { result := .uncertain, mean := 0, rac := 0, z := 0, c := 0, missing := true }) ∧
      (∀ w, t.lcl.last = some w →
        t.lcl.candidate = some w.result ∧
        t.lcl.streak = (if s.lcl.candidate = some w.result then min 15 (s.lcl.streak + 1) else 1) ∧
        t.lcl.line =
          (let threshold := match w.result with | .dead => s.par 6 | .over => 1 | _ => s.par 5
           let confirmed : LineState :=
             match w.result with | .sys x => .sys x | .dead => .dead | .over => .over | .uncertain => .unknown
           if threshold ≤ t.lcl.streak then confirmed else s.lcl.line)) ∧
      t.lcl.last.isSome = true ∧
      t.inp = s.inp ∧ t.pos = s.pos ∧ t.ftabs = s.ftabs ∧ t.mode = s.mode ∧ t.params = s.params ∧ t.pending = s.pending)

/-- R48 to R51: a window that is not missing is classified by the first line of R49 that holds, with the bands of R50 and
R51, from figures that are exact: the mean truncated toward zero, and square roots taken as floors. -/
def Obligations.WindowIsClassifiedByTheBands : Prop :=
  ∀ (s : State), s.lcl.endDue = true → s.lcl.missing = false →
    let q : Nat := s.lcl.s2 / 960
    let z := s.lcl.z
    ∃ t, exec .windowEnd s = .next t ∧ ∃ (w : WindowRec) (r : Nat), t.lcl.last = some w ∧
      w.mean = Int.tdiv s.lcl.s1 960 ∧ r * r ≤ q ∧ q < (r + 1) * (r + 1) ∧
      ((w.rac * w.rac : Nat) : Int) ≤ max 0 ((q : Int) - w.mean * w.mean) ∧
      max 0 ((q : Int) - w.mean * w.mean) < (((w.rac + 1) * (w.rac + 1) : Nat) : Int) ∧
      w.z = z ∧ w.c = s.lcl.c ∧ w.missing = false ∧
      w.result =
        (if 4 ≤ s.lcl.c then .over
         else if r < s.par 7 then .dead
         else if w.mean ≤ -500 then .uncertain
         else if 500 ≤ w.mean then
           (if 2250 < w.mean then .over
            else if z ≤ 2 ∧ (w.rac : Int) ≤ w.mean / 8 then
              (if w.mean ≤ 975 then .sys .dc15
               else if w.mean ≤ 999 then .uncertain
               else if w.mean ≤ 1950 then .sys .dc3
               else .uncertain)
            else .uncertain)
         else
           (if 15500 < w.rac then .over
            else if 22 ≤ z ∧ z ≤ 26 ∧ 8500 ≤ w.rac ∧ w.rac ≤ 14500 then .sys .ac25
            else if 7 ≤ z ∧ z ≤ 9 ∧ 5500 ≤ w.rac ∧ w.rac ≤ 9000 then .sys .ac15
            else .uncertain))

/-! ## Pantograph Channels -/

/-- R64: RAIS is refused BUSY unless the channel is DOWN, then INTERLOCK with the number of the first of the nine conditions
that holds; else it is ACCEPTED and the channel leaves DOWN with role COLLECTOR. With nothing else in course it is then in
its first press with frost mode on, in RISING with it off, or in UP where CONTACT is asserted (R68). That the setpoint of the first
press is P26 is the model's reading, log entry 9; that a channel whose CONTACT is asserted already goes through its strokes is its
choice, log entry 34. -/
def Obligations.RaisRaisesTheCollector : Prop :=
  ∀ (s : State) (n : Fin 4), s.ready →
    let i := Instr.rais (BitVec.ofNat 8 n.val)
    ((s.ch n).state ≠ .down → exec i s = .next (s.answered 0x20 (.refused .busy 0))) ∧
    ((s.ch n).state = .down → ∀ k, (s.raiseConditions n).findIdx? id = some k →
      exec i s = .next (s.answered 0x20 (.refused .interlock (k + 1)))) ∧
    ((s.ch n).state = .down → (s.raiseConditions n).findIdx? id = none →
      ∃ t, exec i s = .next t ∧ s.sameOutside t ∧ t.vlp = s.vlp.afterAnswer (answerTo 0x20 (.ok .accepted [])) ∧
        (t.ch n).role = .collector ∧ (t.ch n).state ≠ .down ∧ (t.ch n).state ≠ .isolated ∧ (t.ch n).state ≠ .stuck ∧
        (s.calm → t.ch n = s.raisedAs n .collector ∧ s.onlyChannel n t))

/-- R71, R73: LOWR is refused BUSY for the old and the target channel of a plan in OPENING to CLOSING; it takes a channel in
STROKING, RISING or UP to FALLING with cause COMMAND and the fall timer at P14, leaves a fall in course, and answers DONE
without change in DOWN, ISOLATED and STUCK. Accepted for the scraper it sets scrape inhibit. That a HOUSED asserted already leaves
the channel in FALLING is the model's choice, log entry 34. -/
def Obligations.LowrLowersTheChannel : Prop :=
  ∀ (s : State) (n : Fin 4), s.ready →
    let i := Instr.lowr (BitVec.ofNat 8 n.val)
    let held : Bool := s.csq.stage.running && (s.csq.plan.map fun p => decide (p.old = some n ∨ p.tgt = some n)).getD false
    let st := (s.ch n).state
    (held = true → exec i s = .next (s.answered 0x21 (.refused .busy 0))) ∧
    (held = false → st = .down ∨ st = .isolated ∨ st = .stuck → exec i s = .next (s.answered 0x21 (.ok .done []))) ∧
    (held = false → st = .stroking ∨ st = .rising ∨ st = .up ∨ st = .falling →
      ∃ t, exec i s = .next t ∧ s.sameOutside t ∧ t.vlp = s.vlp.afterAnswer (answerTo 0x21 (.ok .accepted [])) ∧
        t.ch n = (if st = .falling then s.ch n else (s.ch n).fallen .command (s.par 14)) ∧
        ((s.ch n).role = .scraper → t.icu.inhibit = true) ∧ (s.calm → s.onlyChannel n t))

/-- R80, R82, R83: ARMC clears the latch of a DOWN or ISOLATED channel, and consumes its snapshot, unless STRIP or EMERG is
asserted; ISOLATE takes a DOWN channel out of service and RESTORE returns it when HOUSED is asserted; each is refused BUSY in
the other states. -/
def Obligations.ArmcAndIsolActOnStowedChannels : Prop :=
  ∀ (s : State) (n : Fin 4), s.ready →
    let b : Byte := BitVec.ofNat 8 n.val
    let c := s.ch n
    let held : Bool := s.csq.stage.running && (s.csq.plan.map fun p => decide (p.old = some n ∨ p.tgt = some n)).getD false
    (c.state ≠ .down → c.state ≠ .isolated →
      exec (.armc b) s = .next (s.answered 0x22 (.refused .busy 0)) ∧
      exec (.isolIsolate b) s = .next (s.answered 0x23 (.refused .busy 0)) ∧
      exec (.isolRestore b) s = .next (s.answered 0x23 (.refused .busy 0))) ∧
    (held = true → exec (.isolIsolate b) s = .next (s.answered 0x23 (.refused .busy 0))) ∧
    (c.state = .down ∨ c.state = .isolated →
      (c.latch = none → exec (.armc b) s = .next (s.answered 0x22 (.ok .done []))) ∧
      (c.latch.isSome = true → s.inp.strip.get n = true ∨ s.inp.emerg = true →
        exec (.armc b) s = .next (s.answered 0x22 (.refused .interlock 0))) ∧
      (c.latch.isSome = true → s.inp.strip.get n = false → s.inp.emerg = false →
        ∃ t, exec (.armc b) s = .next t ∧ s.sameOutside t ∧ t.vlp = s.vlp.afterAnswer (answerTo 0x22 (.ok .done [])) ∧
          (t.ch n).latch = none ∧ (t.ch n).snapshot = c.snapshot.map (fun x => { x with consumed := true }) ∧
          (s.calm → t.ch n =
            { c with latch := none, snapshot := c.snapshot.map (fun x => { x with consumed := true }) } ∧ s.onlyChannel n t))) ∧
    (c.state = .isolated → held = false → exec (.isolIsolate b) s = .next (s.answered 0x23 (.ok .done []))) ∧
    (c.state = .down → held = false →
      ∃ t, exec (.isolIsolate b) s = .next t ∧ s.sameOutside t ∧ t.vlp = s.vlp.afterAnswer (answerTo 0x23 (.ok .done [])) ∧
        t.ch n = { c with state := .isolated } ∧ (s.calm → s.onlyChannel n t)) ∧
    (c.state = .down → exec (.isolRestore b) s = .next (s.answered 0x23 (.ok .done []))) ∧
    (c.state = .isolated → s.inp.housed.get n = false →
      exec (.isolRestore b) s = .next (s.answered 0x23 (.refused .interlock 0))) ∧
    (c.state = .isolated → s.inp.housed.get n = true →
      ∃ t, exec (.isolRestore b) s = .next t ∧ s.sameOutside t ∧ t.vlp = s.vlp.afterAnswer (answerTo 0x23 (.ok .done [])) ∧
        (t.ch n).state ≠ .isolated ∧ (t.ch n).latch = c.latch ∧
        (c.latch.isSome = true ∨ s.calm → t.ch n = { c with state := .down }) ∧ (s.calm → s.onlyChannel n t))

/-- R84, R85: FTAB with strictly ascending speeds up to 400 replaces the table of its head type, each force above 400 taken
as 400 and then answered CLAMPED, and computes afresh the setpoint of every channel of that head in RISING or UP; nothing
else changes. The table force at each point is that point's force; on the stretch from one point to the next it is interpolated
with the division truncated toward zero, and stays between the two forces; beyond the table the nearest point's force
stands. -/
def Obligations.ForceTablesAreReplacedAndRead : Prop :=
  ∀ (s : State) (wide : Bool) (pts : Vector RawPoint 8) (tab : Vector ForcePoint 8),
    (s.ready → speedsAscend pts.toList = true →
      let table := pts.map fun p => ({ speed := p.speed.toNat, force := if 400 < p.force.toNat then 400 else p.force.toNat } : ForcePoint)
      let tables : ForceTables := if wide then { s.ftabs with wide := table } else { s.ftabs with narrow := table }
      let head : HeadType := if wide then .wide else .narrow
      ∃ t, exec (.ftab (if wide then 1 else 0) pts) s = .next t ∧ t.ftabs = tables ∧
        t.vlp = s.vlp.afterAnswer (answerTo 0x24
          (.ok (if pts.toList.any fun p => decide (400 < p.force.toNat) then .clamped else .done) [])) ∧
        (∀ n, t.ch n =
          (if ((s.ch n).state = .rising ∨ (s.ch n).state = .up) ∧ s.head n = head then
             { s.ch n with setpoint := (s.withFtabs tables).forceFor n (s.ch n).role }
           else s.ch n)) ∧
        t.inp = s.inp ∧ t.pos = s.pos ∧ t.rmap = s.rmap ∧ t.lcl = s.lcl ∧ t.sgd = s.sgd ∧ t.csq = s.csq ∧ t.icu = s.icu ∧
        t.rll = s.rll ∧ t.evr = s.evr ∧ t.mode = s.mode ∧ t.params = s.params ∧ t.pending = s.pending ∧ t.work = []) ∧
    ((tab.toList.Pairwise fun a b => a.speed < b.speed) →
      (∀ i : Fin 8, tableForce tab (10 * (tab.get i).speed) = (tab.get i).force) ∧
      (∀ v, v < 10 * (tab.get 0).speed → tableForce tab v = (tab.get 0).force) ∧
      (∀ v, 10 * (tab.get 7).speed < v → tableForce tab v = (tab.get 7).force) ∧
      (∀ (i : Fin 8) (j : Fin 8) (v : Nat), j.val = i.val + 1 → 10 * (tab.get i).speed ≤ v → v ≤ 10 * (tab.get j).speed →
        (let p := tab.get i
         let q := tab.get j
         tableForce tab v =
           p.force + Int.tdiv (((q.force : Int) - p.force) * ((v : Int) - 10 * p.speed)) (10 * (q.speed : Int) - 10 * p.speed)) ∧
        min ((tab.get i).force : Int) (tab.get j).force ≤ tableForce tab v ∧
        tableForce tab v ≤ max ((tab.get i).force : Int) (tab.get j).force))

/-- R67, R68: the end of a press begins the pause with the force output at 0; the end of a pause begins the next press with
the force output at P26 (log entry 9), or, once P23 strokes are done, the channel enters RISING, or UP where CONTACT is
asserted. That the row acts whatever time is left of its phase, and has no effect on a channel that is in no press or no pause,
is the model's choice, log entry 11. -/
def Obligations.StrokesRunTheirPressesAndPauses : Prop :=
  ∀ (s : State) (n : Fin 4), s.work = [] →
    let c := s.ch n
    (c.state = .stroking → ∀ k, c.stroke = some k → k.press = true →
      exec (.strokePressEnd n) s =
        .next (s.setCh n { c with stroke := some { k with press := false, left := 400 * s.par 25 }, setpoint := 0 }) ∧
      exec (.strokePauseEnd n) s = .next s) ∧
    (c.state = .stroking → ∀ k, c.stroke = some k → k.press = false →
      exec (.strokePressEnd n) s = .next s ∧
      (k.number < s.par 23 →
        exec (.strokePauseEnd n) s = .next (s.setCh n
          { c with stroke := some { number := k.number + 1, press := true, left := 400 * s.par 24 }, setpoint := s.par 26 })) ∧
      (s.par 23 ≤ k.number → s.calm →
        ∃ t, exec (.strokePauseEnd n) s = .next t ∧ s.sameOutside t ∧ s.onlyChannel n t ∧
          (s.inp.contact.get n = true → t.ch n = s.inContact n c.role) ∧
          (s.inp.contact.get n = false → (t.ch n).state = .rising ∧ (t.ch n).rise = some (4000 * s.par 13) ∧
            (t.ch n).setpoint = s.forceFor n c.role ∧ (t.ch n).role = c.role ∧ (t.ch n).latch = c.latch))) ∧
    (c.state ≠ .stroking ∨ c.stroke = none →
      exec (.strokePressEnd n) s = .next s ∧ exec (.strokePauseEnd n) s = .next s)

/-- R68, R69, R72, R74 to R77, R79: a protective cause that finds the channel in a state of its row takes it to FALLING with
that cause, sets the latch and takes a snapshot of the state it found; STRIP and EMERG latch it in every state, EMERG without
a snapshot in DOWN, STUCK and ISOLATED. EARTH acts where the earthing switch leaves OPEN by itself, on every raised channel, and
BREAKER_FAIL where MB commanded OPEN is seen closed, on the raised collector and scraper alone (R78). That an expiry acts
whatever time is left and changes nothing where its timer does not run is the model's choice, log entry 11; that HOUSED_LOSS,
STRIP_ASSERT and EMERG_ASSERT act whatever level the input had is its choice too, log entry 13, and so is that a HOUSED asserted
already leaves the channel in FALLING, log entry 34. -/
def Obligations.ProtectiveCausesDropTheChannel : Prop :=
  ∀ (s : State) (n : Fin 4), s.work = [] →
    let c := s.ch n
    (if c.state = .rising ∧ c.rise.isSome = true then
       ∃ t, exec (.riseTimeout n) s = .next t ∧ s.sameOutside t ∧ t.ch n = s.dropped n .riseTimeout ∧
         (s.calm → s.onlyChannel n t)
     else exec (.riseTimeout n) s = .next s) ∧
    (if c.state = .up ∧ c.contact.isSome = true then
       ∃ t, exec (.contactTimeout n) s = .next t ∧ s.sameOutside t ∧ t.ch n = s.dropped n .contactLost ∧
         (s.calm → s.onlyChannel n t)
     else exec (.contactTimeout n) s = .next s) ∧
    (let lost := { s.inp with housed := s.inp.housed.set n.val false n.isLt }
     if c.state = .down then
       ∃ t, exec (.housedLoss n) s = .next t ∧ (s.withInp lost).sameOutside t ∧ t.ch n = s.dropped n .uncommanded ∧
         (s.calm → s.onlyChannel n t)
     else exec (.housedLoss n) s = .next (s.withInp lost)) ∧
    (∃ t, exec (.stripAssert n) s = .next t ∧
      (s.withInp { s.inp with strip := s.inp.strip.set n.val true n.isLt }).sameOutside t ∧
      t.ch n = (if c.state.raised then s.dropped n .strip else s.latched n .strip c) ∧ (s.calm → s.onlyChannel n t)) ∧
    (∃ t, exec .emergAssert s = .next t ∧ (s.withInp { s.inp with emerg := true }).sameOutside t ∧
      t.ch n =
        (if c.state.raised then s.dropped n .emerg
         else if c.state = .falling then s.latched n .emerg c
         else { c with latch := some .emerg })) ∧
    (let es := s.act .es
     let i := Instr.positionFeedbackChange .es .closed
     es.confirmed = .opened → es.motion = .none → es.fault = false → s.fb .es = .opened →
       ∃ t, exec i s = .next t ∧ (c.state.raised = true → t.ch n = s.dropped n .earth) ∧
         (s.calm → c.state.raised = false → t.ch n = c)) ∧
    (let mb := s.act .mb
     let i := Instr.positionFeedbackChange .mb .closed
     let failed := s.setAct .mb (mb.faulted .mb)
     mb.commanded = .opened → mb.motion = .none → mb.fault = false → s.fb .mb = .opened → s.calm →
       ∃ t, exec i s = .next t ∧
         t.ch n = (if c.state.raised = true ∧ c.role ≠ .none then failed.dropped n .breakerFail else c))

/-- R67 to R70: CONTACT takes a STROKING or RISING channel to UP; in UP its loss starts the contact timer with P46 at M, and
its return before the expiry ends the timer with an arc record of at least 1 ms and an arc evaluation within P21 of M against
P22. In the other states only the input level changes. That the rows act whatever level the input had, and that a loss while the
contact timer runs leaves the timer as it is, is the model's choice, log entry 13. -/
def Obligations.ContactIsSupervised : Prop :=
  ∀ (s : State) (n : Fin 4), s.work = [] →
    let c := s.ch n
    let on := s.withInp { s.inp with contact := s.inp.contact.set n.val true n.isLt }
    let off := s.withInp { s.inp with contact := s.inp.contact.set n.val false n.isLt }
    (c.state = .stroking ∨ c.state = .rising →
      ∃ t, exec (.contactAssert n) s = .next t ∧ on.sameOutside t ∧
        (s.calm → t.ch n = s.inContact n c.role ∧ s.onlyChannel n t)) ∧
    (c.state = .up → ∀ x, c.contact = some x →
      let arcs := (if c.arcs.length < 16 then c.arcs else c.arcs.drop 1) ++ [{ m := x.m, ms := max 1 (x.run / 4) }]
      let near := arcs.filter fun a => decide (((s.pos.m : Int) - a.m).natAbs ≤ s.par 21)
      ∃ t, exec (.contactAssert n) s = .next t ∧ on.sameOutside t ∧
        (s.calm → t.ch n = { c with contact := none, arcs := arcs, suspect := decide (s.par 22 ≤ near.length) } ∧
          s.onlyChannel n t)) ∧
    (c.state = .up → c.contact = none →
      exec (.contactLoss n) s = .next
        (off.setCh n { c with contact := some { m := s.pos.m, limit := 4 * s.par 46, run := 0 } })) ∧
    (c.state ≠ .up ∨ c.contact.isSome = true → exec (.contactLoss n) s = .next off) ∧
    (c.state ≠ .stroking → c.state ≠ .rising → c.state ≠ .up ∨ c.contact = none → exec (.contactAssert n) s = .next on)

/-- R70, R73: the expiry of the fall timer takes a FALLING channel to STUCK with no role; HOUSED takes a FALLING or STUCK
channel to DOWN with no role, an empty ring and the ice-suspect flag clear. The fall cause and the latch stay. That FALL_TIMEOUT acts whatever time is left and
otherwise changes nothing is the model's choice, log entry 11; that HOUSED_ASSERT acts whatever the level was, log entry 13. -/
def Obligations.FallsEndDownOrStuck : Prop :=
  ∀ (s : State) (n : Fin 4), s.work = [] →
    let c := s.ch n
    let housed := s.withInp { s.inp with housed := s.inp.housed.set n.val true n.isLt }
    (if c.state = .falling ∧ c.fall.isSome = true then
       ∃ t, exec (.fallTimeout n) s = .next t ∧ s.sameOutside t ∧
         t.ch n = { c with state := .stuck, role := .none, fall := none } ∧ (s.calm → s.onlyChannel n t)
     else exec (.fallTimeout n) s = .next s) ∧
    (if c.state = .falling ∨ c.state = .stuck then
       ∃ t, exec (.housedAssert n) s = .next t ∧ housed.sameOutside t ∧ (t.ch n).state ≠ .stuck ∧
         (c.latch.isSome = true ∨ s.calm →
           t.ch n = { c with state := .down, role := .none, fall := none, arcs := [], suspect := false }) ∧
         (s.calm → s.onlyChannel n t)
     else exec (.housedAssert n) s = .next housed)

/-- R72, R75, R76, R124, R155, R156, R165, R170: each input takes its level. A release of STRIP changes nothing more; the rest acts by the
rules that read the input. That a row with the level already held changes nothing is the model's choice, log entry 13. -/
def Obligations.InputsTakeTheirLevels : Prop :=
  ∀ (s : State) (n : Fin 4) (b : Bool),
    exec (.stripRelease n) s = .next (s.withInp { s.inp with strip := s.inp.strip.set n.val false n.isLt }) ∧
    (∃ t, exec .emergRelease s = .next t ∧ (s.withInp { s.inp with emerg := false }).sameOutside t) ∧
    (∃ t, exec (.airokChange b) s = .next t ∧ (s.withInp { s.inp with airok := b }).sameOutside t) ∧
    (∃ t, exec (.gtInChange b) s = .next t ∧ (s.withInp { s.inp with gtIn := b }).sameOutside t) ∧
    (∃ t, exec (.rqInChange b) s = .next t ∧ (s.withInp { s.inp with rqIn := b }).sameOutside t) ∧
    (∃ t, exec (.cplInChange b) s = .next t ∧ (s.withInp { s.inp with cplIn := b }).sameOutside t) ∧
    (s.inp.airok = b → exec (.airokChange b) s = .next s) ∧ (s.inp.gtIn = b → exec (.gtInChange b) s = .next s) ∧
    (s.inp.rqIn = b → exec (.rqInChange b) s = .next s) ∧ (s.inp.cplIn = b → exec (.cplInChange b) s = .next s)


/-! ## Switchgear Drive -/

/-- R90, R91, R92: the one sample of a motion confirms the commanded position, or finds the travel feedback and goes on, or
faults the actuator NO_MATCH; the 3 s limit faults it TIMEOUT. A fault leaves the record out of service, with MB, KA, KD, RC
and the isolators commanded OPEN, and ACT_FAULT with its kind, its command and its feedback is queued where its notices are on,
none may be handed over and the queue has place. That a row acts whatever time is left, and has no effect where its motion is
not in course, is the model's choice, log entry 11. -/
def Obligations.MotionsConfirmOrFault : Prop :=
  ∀ (s : State) (a : Actuator), s.work = [] →
    let r := s.act a
    let told (k : FaultKind) (t : State) : Prop :=
      s.noticesHeld = true → (s.evr.routes.get 13).notify = true → s.evr.queue.length + 2 ≤ 16 →
        ∃ y ∈ t.evr.queue, y.event = .actFault a k r.commanded (s.fb a)
    (r.motion = .settling → r.settle ≠ 0 →
      (s.fb a = r.commanded → r.pending = none → s.calm → (a = .mb → s.breakerHeld) →
        ∃ t, exec (.settleSample a) s = .next t ∧ s.sameOutside t ∧
          t.act a = { r with motion := .none, confirmed := confirmedAt r.commanded } ∧ s.onlyActuator a t ∧
          (a = .mb → r.commanded = .closed → t.sgd.armed = true)) ∧
      (s.fb a = r.commanded → ∃ t, exec (.settleSample a) s = .next t ∧ s.sameOutside t) ∧
      (s.fb a ≠ r.commanded → s.travel a = true →
        exec (.settleSample a) s = .next (s.setAct a { r with motion := .travel })) ∧
      (s.fb a ≠ r.commanded → s.travel a = false →
        ∃ t, exec (.settleSample a) s = .next t ∧ s.sameOutside t ∧ t.act a = r.faulted a ∧ told .noMatch t ∧
          (s.calm → s.onlyActuator a t))) ∧
    (r.motion ≠ .settling ∨ r.settle = 0 → exec (.settleSample a) s = .next s) ∧
    (r.motion = .travel ∨ (r.motion = .settling ∧ r.settle = 0) →
      ∃ t, exec (.motionTimeout a) s = .next t ∧ s.sameOutside t ∧ t.act a = r.faulted a ∧ told .timeout t ∧
        (s.calm → s.onlyActuator a t)) ∧
    (r.motion = .none ∨ (r.motion = .settling ∧ r.settle ≠ 0) → exec (.motionTimeout a) s = .next s)

/-- R90, R91, R96 to R99: a change of position feedback confirms a motion in TRAVEL or with a settle count of 0, is not acted
on in the rest of SETTLING or on a faulted actuator, and otherwise is an uncommanded change: the confirmed position follows
the feedback, MB commanded OPEN and seen closed faults UNCOMMANDED, and MB commanded CLOSED and seen open self-trips, with
SELFTRIP latched, MB commanded OPEN and reclose-armed clear. KA and KD seen closed together latch WELD. That a feedback already
shown changes nothing is the model's choice, log entry 13; that a self-trip's command OPEN is a command like any other is its
reading, log entry 24. -/
def Obligations.PositionFeedbackIsFollowed : Prop :=
  ∀ (s : State) (a : Actuator) (p : Place), s.work = [] →
    let r := s.act a
    let u := s.withInp { s.inp with feedback := s.inp.feedback.set (actNo a).val p (actNo a).isLt }
    let i := Instr.positionFeedbackChange a p
    let weld : Bool := (decide (a = .ka) || decide (a = .kd)) && decide (u.fb .ka = .closed) && decide (u.fb .kd = .closed)
    (s.fb a = p → exec i s = .next s) ∧
    (s.fb a ≠ p →
      (∃ t, exec i s = .next t ∧ u.sameOutside t ∧ (weld = true → t.sgd.reasons.weld = true)) ∧
      (weld = false → (r.motion = .settling ∧ (r.settle ≠ 0 ∨ p ≠ r.commanded)) ∨ (r.motion = .travel ∧ p ≠ r.commanded) ∨
          (r.motion = .none ∧ r.fault = true) →
        exec i s = .next u) ∧
      ((r.motion = .settling ∧ r.settle = 0) ∨ r.motion = .travel → p = r.commanded → r.pending = none → s.calm →
          (a = .mb → s.breakerHeld) →
        ∃ t, exec i s = .next t ∧ t.act a = { r with motion := .none, confirmed := confirmedAt p } ∧ s.onlyActuator a t) ∧
      (r.motion = .none → r.fault = false → a ≠ .mb → s.calm →
        ∃ t, exec i s = .next t ∧
          t.act a = { r with confirmed := if s.travel a then .unsure else confirmedAt p } ∧ s.onlyActuator a t) ∧
      (r.motion = .none → r.fault = false → a = .mb → r.commanded = .opened → p = .closed →
        ∃ t, exec i s = .next t ∧ t.act .mb = r.faulted .mb ∧
          (s.calm → ∀ n, (s.ch n).role = .collector → (s.ch n).state.raised = true →
            (t.ch n).state = .falling ∧ (t.ch n).fallCause = some .breakerFail ∧ (t.ch n).latch = some .breakerFail)) ∧
      (r.motion = .none → r.fault = false → a = .mb → r.commanded = .closed → p = .opened → s.breakerHeld →
        ∃ t, exec i s = .next t ∧ t.sgd.reasons.selftrip = true ∧ (t.act .mb).commanded = .opened ∧ t.sgd.armed = false))

/-- R97, R99: a travel feedback of TA, TD or ES asserted with no motion and no fault makes the confirmed position UNSURE, and
its fall takes it from the position feedback; in a motion or a fault only the input changes. The end of a guard timer that
runs stops it and leaves the other. That the guard's row acts whatever time is left and changes nothing where no timer runs is
the model's choice, log entry 11; that a level already held, or an actuator without a travel feedback, changes nothing is its
choice too, log entry 13. -/
def Obligations.TravelAndGuardTimersAreFollowed : Prop :=
  ∀ (s : State) (a : Actuator) (b : Bool), s.work = [] →
    let r := s.act a
    let u : State :=
      match a with
      | .ta => s.withInp { s.inp with travelTa := b }
      | .td => s.withInp { s.inp with travelTd := b }
      | .es => s.withInp { s.inp with travelEs := b }
      | _ => s
    let i := Instr.travelFeedbackChange a b
    (∃ t, exec i s = .next t ∧ u.sameOutside t) ∧
    (u = s ∨ r.motion ≠ .none ∨ r.fault = true → exec i s = .next u) ∧
    (u ≠ s → r.motion = .none → r.fault = false → s.calm →
      ∃ t, exec i s = .next t ∧
        t.act a = { r with confirmed := if b then .unsure else confirmedAt (s.fb a) } ∧ s.onlyActuator a t) ∧
    (s.sgd.guardKa = none → exec (.guardTimerEnd .ac) s = .next s) ∧
    (s.sgd.guardKd = none → exec (.guardTimerEnd .dc) s = .next s) ∧
    (s.sgd.guardKa.isSome = true →
      ∃ t, exec (.guardTimerEnd .ac) s = .next t ∧ s.sameOutside t ∧
        (s.calm → t.sgd.guardKa = none ∧ t.sgd.guardKd = s.sgd.guardKd ∧ s.onlyActuator .mb t)) ∧
    (s.sgd.guardKd.isSome = true →
      ∃ t, exec (.guardTimerEnd .dc) s = .next t ∧ s.sameOutside t ∧
        (s.calm → t.sgd.guardKd = none ∧ t.sgd.guardKa = s.sgd.guardKa ∧ s.onlyActuator .mb t))

/-- R101, 5.8, R108: the selected system by the table of confirmed positions, and the condition reasons by their conditions: GAP
within the window of a listed phase gap, or of the CURRENT one, from d_open before its approach edge to d_clear past its far
edge; DROP in all but two cases, a collector's own isolator alone confirmed CLOSED and RC not, or RC alone, and in neither
while RC or an isolator is faulted. -/
def Obligations.SelectedSystemAndReasonsFollowTheTables : Prop :=
  ∀ (s : State),
    let ka := (s.act .ka).confirmed
    let kd := (s.act .kd).confirmed
    let ta := (s.act .ta).confirmed
    let td := (s.act .td).confirmed
    (s.selectedNow = some .ac25 ↔ ka = .closed ∧ ta = .opened ∧ kd ≠ .closed) ∧
    (s.selectedNow = some .ac15 ↔ ka = .closed ∧ ta = .closed ∧ kd ≠ .closed) ∧
    (s.selectedNow = some .dc3 ↔ ka ≠ .closed ∧ kd = .closed ∧ td = .opened) ∧
    (s.selectedNow = some .dc15 ↔ ka ≠ .closed ∧ kd = .closed ∧ td = .closed) ∧
    (s.breakerHeld →
      let r := s.sgd.reasons
      let m : Int := s.pos.m
      let before : Nat := if s.pos.dir = .ascending then s.par 3 else s.par 4
      let after : Nat := if s.pos.dir = .ascending then s.par 4 else s.par 3
      let window (g : GapPart) : Bool := decide ((g.lo : Int) - before ≤ m) && decide (m ≤ (g.hi : Int) + after)
      let current : Bool :=
        match s.rmap.current.hit with
        | some { record := { stretch := .phaseGap g, .. }, .. } => window g
        | _ => false
      let rc := s.act .rc
      let closed (n : Fin 4) : Bool := decide ((s.act (isoOf n)).confirmed = .closed)
      (r.line = true ↔ ¬ ∃ x, s.selectedNow = some x ∧ s.lcl.line = .sys x) ∧
      (r.gap = true ↔ (∃ w ∈ s.rmap.watch, w.system = false ∧ window w.gap = true) ∨ current = true) ∧
      (r.seq = true ↔ s.csq.stage ∈ [Stage.opening, .lowering, .switching, .waiting, .raising, .proving]) ∧
      (r.emerg = true ↔ s.inp.emerg = true) ∧
      (r.drop = false ↔ (rc.fault = false ∧ ∀ n, (s.act (isoOf n)).fault = false) ∧
        ((rc.confirmed ≠ .closed ∧ ∃ n, closed n = true ∧ (∀ k, k ≠ n → closed k = false) ∧ (s.ch n).state = .up ∧
            (s.ch n).role = .collector) ∨
         (rc.confirmed = .closed ∧ ∀ n, closed n = false))) ∧
      (r.earth = true ↔ (s.act .es).confirmed ≠ .opened) ∧ (r.stby = true ↔ s.mode = .standby) ∧
      (r.peer = true ↔ s.rll.state = .uncoupling))

/-- R93, R105: FCLR answers DONE on an actuator without a fault, is refused INTERLOCK while its feedback differs from its
command or its travel feedback is asserted, and otherwise clears the fault and takes the confirmed position from the feedback;
no other fault flag moves. ERTH ON is refused INTERLOCK unless MB is confirmed OPEN and every channel is DOWN or ISOLATED; a
faulted ES refuses ON and OFF; the position already confirmed with no motion is DONE; otherwise the request is taken by R94 and
answered ACCEPTED, and with P11 at 0 a feedback already there confirms at once (R91). The order of ERTH's answers, INTERLOCK
before FAULT before DONE, is the model's choice, log entry 23. -/
def Obligations.FclrAndErthActOnTheirActuator : Prop :=
  ∀ (s : State) (a : Actuator) (on : Bool), s.ready →
    (let r := s.act a
     let i := Instr.fclr (BitVec.ofNat 8 (actNo a).val)
     if r.fault = false then exec i s = .next (s.answered 0x2B (.ok .done []))
     else if s.fb a ≠ r.commanded ∨ s.travel a = true then exec i s = .next (s.answered 0x2B (.refused .interlock 0))
     else
       ∃ t, exec i s = .next t ∧ s.sameOutside t ∧ t.vlp = s.vlp.afterAnswer (answerTo 0x2B (.ok .done [])) ∧
         (t.act a).fault = false ∧ (∀ b, b ≠ a → (t.act b).fault = (s.act b).fault) ∧
         (s.calm → a ≠ .mb → t.act a = { r with fault := false, confirmed := confirmedAt (s.fb a) }) ∧
         (s.calm → s.onlyActuator a t)) ∧
    (let r := s.act .es
      let p : Place := if on then .closed else .opened
      let i := if on then Instr.erthOn else Instr.erthOff
      let free : Bool := decide ((s.act .mb).confirmed = .opened) &&
        channels.all fun n => decide ((s.ch n).state = .down) || decide ((s.ch n).state = .isolated)
      if on = true ∧ free = false then exec i s = .next (s.answered 0x2A (.refused .interlock 0))
      else if r.fault then exec i s = .next (s.answered 0x2A (.refused .fault 6))
      else if r.confirmed = confirmedAt p ∧ r.motion = .none then exec i s = .next (s.answered 0x2A (.ok .done []))
      else
        ∃ t, exec i s = .next t ∧ s.sameOutside t ∧ t.vlp = s.vlp.afterAnswer (answerTo 0x2A (.ok .accepted [])) ∧
          t.act .es = r.requested p .host (s.par 11) (s.fb .es))

/-- R109 to R112: BRKC removes HOLD and SELFTRIP whatever its answer; it is INTERLOCK with the reasons that remain, FAULT for
a faulted MB, DONE for one commanded and confirmed closed, and ACCEPTED where the close is in course, held behind an opening,
or commanded. BRKO adds HOLD, clears reclose-armed where HOLD was absent, and commands MB OPEN; it is FAULT for a faulted MB,
DONE for one confirmed OPEN with no motion, and ACCEPTED otherwise. With P09 at 0 a feedback already there confirms at once
(R91). That BRKC tests the reasons before FAULT, and that BRKO's answer is read as the joining of HOLD leaves the breaker, is
the model's choice, log entry 23. -/
def Obligations.BreakerCommandsActOnTheReasons : Prop :=
  ∀ (s : State), s.ready →
    let m := s.act .mb
    let left : Reasons := { s.sgd.reasons with hold := false, selftrip := false }
    (∃ t, exec .brkc s = .next t ∧ s.sameOutside t ∧ t.sgd.reasons.hold = false ∧ t.sgd.reasons.selftrip = false ∧
      (left.empty = false → t.vlp = s.vlp.afterAnswer (answerTo 0x28 (.refused .interlock left.code))) ∧
      (left.empty = true → m.fault = true → t.vlp = s.vlp.afterAnswer (answerTo 0x28 (.refused .fault 0))) ∧
      (left.empty = true → m.fault = false → m.commanded = .closed →
        t.vlp = s.vlp.afterAnswer
          (answerTo 0x28 (.ok (if m.confirmed = .closed then .done else .accepted) []))) ∧
      (left.empty = true → m.fault = false → m.commanded = .opened → m.motion ≠ .none →
        t.vlp = s.vlp.afterAnswer (answerTo 0x28 (.ok .accepted [])) ∧
        (s.calm → s.breakerHeld → t.act .mb = { m with pending := some (.closed, .host) })) ∧
      (left.empty = true → m.fault = false → m.commanded = .opened → m.motion = .none → m.confirmed = .opened →
        m.pending = none → s.armedHeld →
        t.vlp = s.vlp.afterAnswer (answerTo 0x28 (.ok .accepted [])) ∧
        (s.calm → s.breakerHeld → t.act .mb = m.moving .closed (s.par 9) (s.fb .mb) ∧ t.sgd.reasons = left))) ∧
    (s.breakerHeld →
      ∃ t, exec .brko s = .next t ∧ s.sameOutside t ∧ t.sgd.reasons.hold = true ∧ (t.act .mb).commanded = .opened ∧
        (s.sgd.reasons.hold = false → t.sgd.armed = false) ∧
        (m.fault = true → t.vlp = s.vlp.afterAnswer (answerTo 0x29 (.refused .fault 0))) ∧
        (m.fault = false → m.commanded = .opened → m.confirmed = .opened → m.motion = .none →
          t.vlp = s.vlp.afterAnswer (answerTo 0x29 (.ok .done []))) ∧
        (m.fault = false → m.commanded = .opened → m.confirmed ≠ .opened ∨ m.motion ≠ .none →
          t.vlp = s.vlp.afterAnswer (answerTo 0x29 (.ok .accepted []))) ∧
        (m.fault = false → m.commanded = .closed →
          t.vlp = s.vlp.afterAnswer
            (answerTo 0x29 (.ok (if s.par 9 = 0 ∧ s.fb .mb = .opened then .done else .accepted) [])) ∧
          t.act .mb = m.moving .opened (s.par 9) (s.fb .mb)))

/-- R102, R104: SELS is refused MODE in RUN, BUSY while the car moves or the procedure runs, INTERLOCK unless MB is confirmed
OPEN with no motion, FAULT with the number of the first faulted actuator its steps would command, in the order of the
steps (of several, the model's choice, log entry 47): the path contactors they open, KA before KD, the target path's switch where
it has to move, and the target's contactor. A target already selected is DONE; otherwise it
is ACCEPTED and the procedure runs for it, with the contactors it opens commanded OPEN first. The order INTERLOCK, FAULT, DONE is the model's choice, log entry 23, and so is the
other path's contactor confirmed OPEN but commanded CLOSED among those opened, log entry 12. -/
def Obligations.SelsRunsThePathChange : Prop :=
  ∀ (s : State) (x : Option System), s.ready →
    let i := Instr.sels (BitVec.ofNat 8 (match x with | some y => y.code | none => 0xFF))
    let m := s.act .mb
    if s.mode = .run then exec i s = .next (s.answered 0x2C (.refused .mode 0))
    else if s.pos.speed ≠ 0 ∨ s.sgd.proc.isSome = true then exec i s = .next (s.answered 0x2C (.refused .busy 0))
    else if m.confirmed ≠ .opened ∨ m.motion ≠ .none then exec i s = .next (s.answered 0x2C (.refused .interlock 0))
    else
      let ac : Bool := decide (x = some .ac25 ∨ x = some .ac15)
      let own : Actuator := if ac then .ka else .kd
      let sw : Actuator := if ac then .ta else .td
      let tap : Confirmed := if x = some .ac25 ∨ x = some .dc3 then .opened else .closed
      let turn : Bool := decide ((s.act sw).confirmed ≠ tap)
      let opens : List Actuator := ([.ka, .kd] : List Actuator).filter fun k =>
        if x = none then decide ((s.act k).confirmed ≠ .opened)
        else if k = own then decide ((s.act k).confirmed ≠ .opened) && turn
        else decide ((s.act k).confirmed ≠ .opened) || decide ((s.act k).commanded = .closed)
      let steps : List Actuator := opens ++ (if x = none then [] else (if turn then [sw] else []) ++ [own])
      let faulted := steps.find? fun a => (s.act a).fault
      (∀ a, faulted = some a → exec i s = .next (s.answered 0x2C (.refused .fault (actNo a).val))) ∧
      (faulted = none →
        if s.selectedNow = x then exec i s = .next (s.answered 0x2C (.ok .done []))
        else
          ∃ t, exec i s = .next t ∧ s.sameOutside t ∧ t.vlp = s.vlp.afterAnswer (answerTo 0x2C (.ok .accepted [])) ∧
            (s.calm → s.par 10 ≠ 0 → s.par 11 ≠ 0 → s.faultsHeld → s.motionsHeld →
              ∃ p, t.sgd.proc = some p ∧ p.target = x ∧ p.caller = .sels ∧
                (opens ≠ [] → p.step = .openingPath ∧ p.commanded = opens ∧
                  ∀ k ∈ opens, t.act k = (s.act k).requested .opened .procedure (s.par 10) (s.fb k))))

/-- R102, R103: the procedure for a target goes on when what its step waits on is confirmed. OPENING_PATH ends once each
contactor it commanded is confirmed OPEN; GUARD is taken while the guard timer of the other path's contactor runs; then the
switch is commanded to the target's position, unless it stands there, and after it the target's contactor CLOSED. Its
confirmation ends the procedure with the target selected; for target NONE the procedure ends after OPENING_PATH. A fault of an
actuator it has commanded ends it, and so does a contactor that leaves OPEN by itself once OPENING_PATH has ended; that the other
path's contactor counts also where OPENING_PATH found it open is the model's choice, log entry 50. -/
def Obligations.PathChangeRunsItsSteps : Prop :=
  ∀ (s : State) (q : Proc), s.work = [] → s.sgd.proc = some q → s.csq.stage = .idle → s.faultsHeld → s.motionsHeld →
    s.par 10 ≠ 0 → s.par 11 ≠ 0 →
    let last (k : Actuator) : Prop :=
      q.step = .openingPath ∧ k ∈ q.commanded ∧ s.arrives k .opened ∧ ∀ a ∈ q.commanded, a ≠ k → s.standsOpen a
    (q.target = none → ∀ k, k = .ka ∨ k = .kd → last k →
      ∃ t, exec (.settleSample k) s = .next t ∧ t.sgd.proc = none ∧ (t.act k).confirmed = .opened) ∧
    (∀ a, a = .ka ∨ a = .kd → a ∈ q.commanded → s.misses a →
      ∃ t, exec (.settleSample a) s = .next t ∧ t.sgd.proc = none ∧ t.act a = (s.act a).faulted a) ∧
    (∀ x, q.target = some x →
      let ac : Bool := decide (x = .ac25 ∨ x = .ac15)
      let own : Actuator := if ac then .ka else .kd
      let other : Actuator := if ac then .kd else .ka
      let sw : Actuator := if ac then .ta else .td
      let tap : Place := if x = .ac25 ∨ x = .dc3 then .opened else .closed
      let guard : Option Nat := if ac then s.sgd.guardKd else s.sgd.guardKa
      let at_ (t : State) (st : ProcStep) : Prop :=
        ∃ p, t.sgd.proc = some p ∧ p.step = st ∧ p.target = some x ∧ p.caller = q.caller
      let closes (t : State) : Prop := at_ t .closingPath ∧ t.act own = (s.act own).moving .closed (s.par 10) (s.fb own)
      let turnsOrCloses (t : State) : Prop :=
        if (s.act sw).confirmed = confirmedAt tap then closes t
        else at_ t .settingTap ∧ t.act sw = (s.act sw).requested tap .procedure (s.par 11) (s.fb sw)
      ((s.misses sw → sw ∈ q.commanded →
        ∃ t, exec (.settleSample sw) s = .next t ∧ t.sgd.proc = none ∧ t.act sw = (s.act sw).faulted sw) ∧
      (last other → s.standsOpen own →
        ∃ t, exec (.settleSample other) s = .next t ∧ at_ t .guard ∧
          (if ac then t.sgd.guardKd else t.sgd.guardKa) = some (80 * s.par 12)) ∧
      (last own → s.standsOpen other → (s.act sw).fault = false →
        ∃ t, exec (.settleSample own) s = .next t ∧
          (if guard.isSome then at_ t .guard else turnsOrCloses t)) ∧
      (q.step = .guard → guard.isSome = true → s.standsOpen other → s.standsOpen own → (s.act own).fault = false →
        (s.act sw).fault = false →
        ∃ t, exec (.guardTimerEnd (if ac then .dc else .ac)) s = .next t ∧ turnsOrCloses t) ∧
      (q.step = .settingTap → s.arrives sw tap → guard = none → s.standsOpen other → s.standsOpen own →
        (s.act own).fault = false → ∃ t, exec (.settleSample sw) s = .next t ∧ closes t) ∧
      (q.step = .closingPath → s.arrives own .closed → (s.act other).confirmed = .opened →
        (s.act sw).confirmed = confirmedAt tap →
        ∃ t, exec (.settleSample own) s = .next t ∧ t.sgd.proc = none ∧ t.sgd.selected = some x) ∧
      (∀ k, k = other ∨ (k = own ∧ own ∈ q.commanded ∧ q.step ≠ .closingPath) → q.step ≠ .openingPath →
        s.standsOpen k → (s.act k).motion = .none → (s.act k).fault = false → s.fb k = .opened →
        ∃ t, exec (.positionFeedbackChange k .closed) s = .next t ∧ t.sgd.proc = none ∧ (t.act k).confirmed = .closed)))

/-! ## Changeover Sequencer -/

/-- R117 to R120: the target channel is the old channel where it allows the target system and its head fits, else the
lowest-numbered trailing channel that is not ISOLATED, STUCK or latched and allows and fits, else such a leading one, else none.
A manual plan and a route plan take it, or none where the roof line feeds them; a return to RUN with the sequencer IDLE arms the
nearest eligible system gap, with the head fit on its far side, and the plan stays in ARMED short of its opening distance. -/
def Obligations.PlansAreDerivedFromTheirGap : Prop :=
  ∀ (s : State) (x : System),
    let plan (u : State) (target : System) (fit : HeadFit) (lower : Bool) (route : Option PlanRoute) : Plan :=
      let old := channels.find? fun n => decide ((u.ch n).role = .collector) &&
        (decide ((u.ch n).state = .stroking) || decide ((u.ch n).state = .rising) || decide ((u.ch n).state = .up))
      let fed : Bool := decide (u.par 40 = 2 ∧ u.rll.state ≠ .detached)
      let tgt := if fed then none else u.chooseTarget old target fit
      { source := u.selectedNow, target := target, route := route, lowerNeeded := lower || (!fed && decide (tgt ≠ old))
        old := old, tgt := tgt, fed := fed }
    (∀ (old : Option (Fin 4)) (fit : HeadFit),
      let fits (n : Fin 4) : Bool := match fit, s.head n with | .narrow, .wide => false | .wide, .narrow => false | _, _ => true
      let may (n : Fin 4) : Bool := decide ((s.ch n).state ≠ .isolated ∧ (s.ch n).state ≠ .stuck ∧ (s.ch n).latch = none) &&
        s.allows n x && fits n
      let first (lead : Bool) (n : Fin 4) : Prop :=
        s.leads n = lead ∧ may n = true ∧ ∀ j, j < n → ¬ (s.leads j = lead ∧ may j = true)
      (∀ n, old = some n → s.allows n x = true → fits n = true → s.chooseTarget old x fit = some n) ∧
      ((∀ n, old = some n → ¬ (s.allows n x = true ∧ fits n = true)) →
        (∀ n, first false n → s.chooseTarget old x fit = some n) ∧
        ((∀ n, s.leads n = false → may n = false) → ∀ n, first true n → s.chooseTarget old x fit = some n) ∧
        ((∀ n, may n = false) → s.chooseTarget old x fit = none))) ∧
    s.manualPlan x = plan s x (match s.currentRec with | some r => r.fit | none => .any) false none ∧
    (s.ready → s.mode = .standby → s.csq.stage = .idle →
      ∀ w, (s.rmap.watch.find? fun w =>
          w.system && decide (s.csq.declined ≠ some (w.gap.lo, w.gap.hi)) && !s.passed w.gap) = some w →
        let up : Bool := decide (s.pos.dir = .ascending)
        let approach : Nat := if up then w.gap.lo else w.gap.hi
        (if up then s.pos.m + s.par 3 < approach else approach + s.par 3 < s.pos.m) →
        ∃ t, exec .modeRun s = .next t ∧ t.csq.stage = .armed ∧
          (let p : Int := if up then (w.gap.hi : Int) + 1 else (w.gap.lo : Int) - 1
           let fit : HeadFit :=
             if s.pos.range then .any
             else match (lookup s.rmap s.pos.route p).hit with | some h => h.record.fit | none => .any
           t.csq.plan = some (plan t (if up then w.gap.supplyHi else w.gap.supplyLo) fit w.gap.lowerInGap
             (some { approach := approach, far := if up then w.gap.hi else w.gap.lo, dir := s.pos.dir }))))

/-- R123 to R132: a plan goes from stage to stage when what its stage waits on comes: MB confirmed OPEN ends OPENING; a SENIOR
with CPL_in asserted waits for its fall, with the peer wait limit P41; a plan that needs no lowering goes on to SWITCHING and its
procedure, or past it with the target selected already; one that does lowers its old channel and goes on once all it waits on
are DOWN or ISOLATED; the procedure's end takes a route plan to WAITING and a manual one to RAISING; M past the far edge by
d_clear takes it to RAISING, the isolator confirmed CLOSED to PROVING with P15, the target's line state to CLOSING, and MB
confirmed CLOSED to IDLE, with no system gap listed. A fault of MB in OPENING, of the procedure's contactor in SWITCHING and of
the target's isolator in RAISING fails the plan with ACTUATOR, a channel waited on that becomes STUCK with TIMEOUT_LOWER. Short of
that edge a change of M leaves the plan in WAITING, unless its target is raised and the CURRENT record is a lowering zone (R72,
R135). That a conflict leaves a peer wait in course to end with CPL_in is the model's reading, log entry 26, and that a write of
P40 does so too is its choice, log entry 49. -/
def Obligations.ChangeoverRunsItsStages : Prop :=
  ∀ (s : State) (p : Plan), s.work = [] → s.csq.plan = some p → s.faultsHeld → s.motionsHeld → s.scraperHeld →
    s.linkFollowed → s.par 10 ≠ 0 → s.par 11 ≠ 0 →
    let peer : Prop := s.par 40 = 1 ∧ s.rll.conflict = false ∧ s.inp.cplIn = true
    let kept (t : State) (st : Stage) : Prop := t.csq.stage = st ∧ t.csq.plan = some p
    let failed (t : State) (r : FailReason) : Prop := kept t .failed ∧ t.csq.failReason = some r
    let onward (t : State) : Prop :=
      (s.selectedNow ≠ some p.target → s.sgd.proc = none → (∀ a, (s.act a).fault = false) →
        kept t .switching ∧ ∃ q, t.sgd.proc = some q ∧ q.target = some p.target ∧ q.caller = .sequencer) ∧
      (s.selectedNow = some p.target → ∀ r, p.route = some r → s.beyond r = false → kept t .waiting)
    let lowers (t : State) : Prop :=
      ∀ n, p.old = some n → (s.ch n).state.raised = true → (∀ k, (s.ch k).state ≠ .stuck) →
        kept t .lowering ∧ t.csq.timer = none ∧ (t.ch n).state = .falling ∧ (t.ch n).fallCause = some .command
    let ac : Bool := decide (p.target = .ac25 ∨ p.target = .ac15)
    let own : Actuator := if ac then .ka else .kd
    let other : Actuator := if ac then .kd else .ka
    let sw : Actuator := if ac then .ta else .td
    let tap : Confirmed := if p.target = .ac25 ∨ p.target = .dc3 then .opened else .closed
    (s.csq.stage = .opening → s.arrives .mb .opened →
      ∃ t, exec (.settleSample .mb) s = .next t ∧
        (peer → kept t .lowering ∧ t.csq.timer = some (4000 * s.par 41)) ∧
        (¬ peer → p.lowerNeeded = false → onward t) ∧ (¬ peer → p.lowerNeeded = true → lowers t)) ∧
    (s.csq.stage = .opening → s.misses .mb → (s.act .mb).commanded = .opened →
      ∃ t, exec (.settleSample .mb) s = .next t ∧ failed t .actuator) ∧
    (s.csq.stage = .lowering → s.csq.timer.isSome = true → s.inp.cplIn = true →
      ∃ t, exec (.cplInChange false) s = .next t ∧
        (p.lowerNeeded = false → (s.act .mb).confirmed = .opened → onward t) ∧ (p.lowerNeeded = true → lowers t)) ∧
    (s.csq.stage = .lowering → s.csq.timer = none → p.lowerNeeded = true → ∀ n, n ∈ s.csq.waitFor → (s.ch n).state = .falling →
      ((∀ k ∈ s.csq.waitFor, k ≠ n → (s.ch k).state.stowed = true) → (s.act .mb).confirmed = .opened →
        ∃ t, exec (.housedAssert n) s = .next t ∧ onward t) ∧
      ((s.ch n).fall.isSome = true → ∃ t, exec (.fallTimeout n) s = .next t ∧ failed t .timeoutLower)) ∧
    (s.csq.stage = .switching → s.csq.switchWait = .running → ∀ q, s.sgd.proc = some q → q.step = .closingPath →
      q.target = some p.target → q.caller = .sequencer →
      (s.arrives own .closed → (s.act other).confirmed = .opened → (s.act sw).confirmed = tap →
        ∃ t, exec (.settleSample own) s = .next t ∧ t.sgd.proc = none ∧ t.sgd.selected = some p.target ∧
          (∀ r, p.route = some r → s.beyond r = false → kept t .waiting) ∧
          (p.route = none → ∀ n, p.tgt = some n → s.raisable n p.target →
            kept t .raising ∧ (t.ch n).role = .collector ∧ (t.ch n).state.raised = true)) ∧
      (s.misses own → ∃ t, exec (.settleSample own) s = .next t ∧ failed t .actuator)) ∧
    (s.csq.stage = .waiting → ∀ r, p.route = some r → ∀ a b, ∃ t, exec (.axleTransition a b) s = .next t ∧
      (t.pos.m ≠ s.pos.m → t.pos.dir = s.pos.dir →
        (t.beyond r = false →
          (∀ n, p.tgt = some n → (s.ch n).state.raised = false) ∨ (∀ q, t.currentRec = some q → q.stretch.kindCode ≠ 3) →
          kept t .waiting) ∧
        (t.beyond r = true → ∀ n, p.tgt = some n → s.raisable n p.target → s.selectedNow = some p.target →
          s.sgd.selected = s.selectedNow → kept t .raising))) ∧
    (s.csq.stage = .raising → p.fed = false → ∀ n, p.tgt = some n → (s.ch n).state = .up → (s.ch n).role = .collector →
      (s.arrives (isoOf n) .closed → s.lcl.line ≠ .sys p.target →
        ∃ t, exec (.settleSample (isoOf n)) s = .next t ∧ kept t .proving ∧ t.csq.timer = some (4000 * s.par 15)) ∧
      (s.misses (isoOf n) → ∃ t, exec (.settleSample (isoOf n)) s = .next t ∧ failed t .actuator)) ∧
    (s.csq.stage = .proving → p.fed = false → s.csq.timer.isSome = true → s.lcl.endDue = true → s.rmap.watch = [] →
      s.breakerHeld → s.selectedNow = some p.target → s.standsOpen .mb → (s.act .mb).motion = .none →
      (s.act .mb).fault = false → (s.act .mb).pending = none → s.par 9 ≠ 0 →
      ∃ t, exec .windowEnd s = .next t ∧
        (s.lcl.line ≠ .sys p.target → t.lcl.line = .sys p.target →
          if ({ s.sgd.reasons with line := false, seq := false } : Reasons).empty = true then
            kept t .closing ∧ t.act .mb = (s.act .mb).moving .closed (s.par 9) (s.fb .mb)
          else t.csq.stage = .idle ∧ t.csq.plan = none ∧ t.act .mb = s.act .mb)) ∧
    (s.csq.stage = .closing → s.arrives .mb .closed → s.rmap.watch = [] → s.breakerHeld →
      ∃ t, exec (.settleSample .mb) s = .next t ∧ t.csq.stage = .idle ∧ t.csq.plan = none ∧ t.sgd.armed = true ∧
        (t.act .mb).confirmed = .closed)

/-- R124, R131, R134, R140: the peer wait's and the prove timer's expiry, and CABT from OPENING to CLOSING, enter FAILED with
their reason; the plan stays, SEQFAIL joins and MB is commanded OPEN. CABT is answered DONE there, and in IDLE and FAILED, where
it changes nothing. That a row acts whatever time is left, and leaves the state as it was where its timer does not run, is the
model's choice, log entry 11; that a peer wait runs to its limit after a conflict or a write of P40 is the model's too, log
entries 26 and 49. -/
def Obligations.FailuresHoldTheBreaker : Prop :=
  ∀ (s : State), s.work = [] →
    let failed (r : FailReason) (t : State) : Prop :=
      t.csq.stage = .failed ∧ t.csq.failReason = some r ∧ t.csq.plan = s.csq.plan ∧ t.csq.timer = none ∧
      t.sgd.reasons.seqfail = true ∧ (s.breakerHeld → (t.act .mb).commanded = .opened) ∧
      (s.sgd.reasons.seqfail = false → t.sgd.armed = false)
    (s.csq.stage = .lowering → s.csq.timer.isSome = true →
      ∃ t, exec .peerWaitTimeout s = .next t ∧ s.sameOutside t ∧ failed .peer t) ∧
    (s.csq.stage = .proving → s.csq.timer.isSome = true →
      ∃ t, exec .proveTimeout s = .next t ∧ s.sameOutside t ∧ failed .timeoutProve t) ∧
    (s.csq.stage ≠ .lowering ∨ s.csq.timer = none → exec .peerWaitTimeout s = .next s) ∧
    (s.csq.stage ≠ .proving ∨ s.csq.timer = none → exec .proveTimeout s = .next s) ∧
    (s.ready → s.csq.stage.running = true →
      ∃ t, exec .cabt s = .next t ∧ s.sameOutside t ∧ t.vlp = s.vlp.afterAnswer (answerTo 0x31 (.ok .done [])) ∧
        failed .abort t) ∧
    (s.ready → s.csq.stage = .idle ∨ s.csq.stage = .failed → exec .cabt s = .next (s.answered 0x31 (.ok .done [])))

/-- R139, R140, R141: CABT discards a plan in ARMED and declines a route plan's gap, which arms nothing again; CACK is refused
BUSY outside FAILED and there answers the failure reason, clears SEQFAIL and leaves IDLE in STANDBY and where no system gap is
eligible; in RUN the nearest eligible gap arms a new plan. CHNG is refused BUSY outside IDLE and INTERLOCK above 5.0 km/h or
where no channel allows the target. An accepted CHNG with MB closed and a target channel enters OPENING with MB commanded OPEN;
without one it fails NOCHAN. That the speed is tested before the allowed sets, with details 1 and 2, is the model's choice, log
entry 23. -/
def Obligations.ChangeoverCommandsActByTheStage : Prop :=
  ∀ (s : State) (x : System), s.ready →
    let chng := Instr.chng (BitVec.ofNat 8 x.code)
    let p := s.manualPlan x
    (s.csq.stage = .armed → ∀ g, s.csq.plan.bind (·.gap) = some g →
      ∃ t, exec .cabt s = .next t ∧ s.sameOutside t ∧ t.vlp = s.vlp.afterAnswer (answerTo 0x31 (.ok .done [])) ∧
        t.csq.declined = some g ∧ t.csq.plan.bind (·.gap) ≠ some g) ∧
    (s.csq.stage ≠ .failed → exec .cack s = .next (s.answered 0x32 (.refused .busy 0))) ∧
    (s.csq.stage = .failed → ∀ r, s.csq.failReason = some r →
      ∃ t, exec .cack s = .next t ∧ s.sameOutside t ∧ t.vlp = s.vlp.afterAnswer (answerTo 0x32 (.ok .done (be1 r.code))) ∧
        let eligible := s.rmap.watch.find? fun w =>
          w.system && decide (s.csq.declined ≠ some (w.gap.lo, w.gap.hi)) && !s.passed w.gap
        (s.mode = .standby ∨ eligible = none →
          t.csq.stage = .idle ∧ t.csq.plan = none ∧ t.csq.failReason = none ∧ t.sgd.reasons.seqfail = false) ∧
        (s.mode = .run → ∀ w, eligible = some w →
          t.csq.stage ≠ .idle ∧ t.csq.plan.bind (·.gap) = some (w.gap.lo, w.gap.hi) ∧
          (t.csq.stage ≠ .failed → t.csq.failReason = none ∧ t.sgd.reasons.seqfail = false))) ∧
    (s.csq.stage ≠ .idle → exec chng s = .next (s.answered 0x30 (.refused .busy 0))) ∧
    (s.csq.stage = .idle → 50 < s.pos.speed → exec chng s = .next (s.answered 0x30 (.refused .interlock 1))) ∧
    (s.csq.stage = .idle → s.pos.speed ≤ 50 → (∀ n, s.allows n x = false) →
      exec chng s = .next (s.answered 0x30 (.refused .interlock 2))) ∧
    (∀ n, s.csq.stage = .idle → s.pos.speed ≤ 50 → s.allows n x = true →
      ∃ t, exec chng s = .next t ∧ s.sameOutside t ∧ t.vlp = s.vlp.afterAnswer (answerTo 0x30 (.ok .accepted [])) ∧
        (s.inp.emerg = true → t.csq.stage = .failed ∧ t.csq.failReason = some .emerg) ∧
        (s.inp.emerg = false → p.tgt = none → p.fed = false → t.csq.stage = .failed ∧ t.csq.failReason = some .nochan) ∧
        (s.inp.emerg = false → p.tgt.isSome = true → s.breakerHeld → (s.act .mb).commanded = .closed →
          s.par 9 ≠ 0 ∨ s.fb .mb = .closed →
          t.csq.stage = .opening ∧ t.csq.plan = some p ∧ t.act .mb = (s.act .mb).moving .opened (s.par 9) (s.fb .mb)))

/-! ## Ice Clearing Unit -/

/-- R145, R146, R148, R151: HEAT with a time of 0 removes the heater's HOST entry; with a time of 1 or more it makes or renews
it with the command's priority and time, taken as 3,600 s above that and then answered CLAMPED, as the newest of its priority.
A granted heater's whole second takes 1 from the time of each of its entries, those at 0 leave, and while frost mode is on an
insulator AUTO entry that ran out is made again with 3,600 s, newest of priority 2; a heater not granted spends nothing. Nothing
but the heating changes. -/
def Obligations.HeatListIsKeptAndCountedDown : Prop :=
  ∀ (s : State) (h : Fin 6) (p : Fin 4) (v : Half), s.work = [] → s.heatListHeld →
    (s.ready →
      let i := Instr.heat (BitVec.ofNat 8 h.val) (BitVec.ofNat 8 p.val) v
      let others := s.icu.list.filter fun e => decide (e.heater ≠ h ∨ e.origin ≠ .host)
      let e : HeatEntry := { heater := h, origin := .host, priority := p.val, remaining := min 3600 v.toNat }
      let left (l : List HeatEntry) (o : HeatOrigin) : Nat :=
        ((l.find? fun e => decide (e.heater = h ∧ e.origin = o)).map (·.remaining)).getD 0
      ∃ t, exec i s = .next t ∧ s.onlyHeating t ∧ t.icu.frost = s.icu.frost ∧
        t.icu.list = (if v.toNat = 0 then others
          else others.filter (fun x => decide (x.priority ≤ p.val)) ++ [e] ++ others.filter (fun x => decide (p.val < x.priority))) ∧
        t.vlp = s.vlp.afterAnswer (answerTo 0x34 (.ok (if 3600 < v.toNat then .clamped else .done)
          (be1 (bit (t.icu.grant.contains h)) ++ be2 (left t.icu.list .host) ++ be2 (left t.icu.list .auto))))) ∧
    (let l := counted h s.icu.list
      let again : Bool := s.icu.frost && decide (4 ≤ h.val) &&
        s.icu.list.any fun e => decide (e.heater = h ∧ e.origin = .auto ∧ e.remaining ≤ 1)
      (h ∉ s.icu.grant → exec (.heaterSecond h) s = .next s) ∧
      (h ∈ s.icu.grant →
        ∃ t, exec (.heaterSecond h) s = .next t ∧ s.onlyHeating t ∧ t.icu.frost = s.icu.frost ∧
          t.icu.progress.get h = 0 ∧
          t.icu.list =
            (if again then
               l.filter (fun e => decide (e.priority ≤ 2)) ++ [⟨h, .auto, 2, 3600⟩] ++ l.filter (fun e => decide (2 < e.priority))
             else l)))

/-- R147: the walk takes the heaters with an entry in the order of the list, the first entry of each deciding, and grants each
whose rating fits beside those granted before it. So only heaters with an entry are granted, their ratings fit the budget, and
a heater passed over does not fit beside those granted. -/
def Obligations.AdmissionFillsTheBudget : Prop :=
  ∀ (rating : Fin 6 → Nat) (budget : Nat) (l : List HeatEntry),
    let g := admission rating budget l
    let order := (l.map (·.heater)).eraseDups
    (∀ before h after, order = before ++ h :: after →
      (h ∈ g ↔ ((before.filter fun k => decide (k ∈ g)).map rating).sum + rating h ≤ budget)) ∧
    (g.map rating).sum ≤ budget ∧ g.Nodup ∧ (∀ h ∈ g, ∃ e ∈ l, e.heater = h) ∧
    ∀ e ∈ l, e.heater ∉ g → budget < (g.map rating).sum + rating e.heater

/-- R151, R152, R160: FRST turns frost mode on, with an AUTO entry for each insulator heater, or off, without them, and is
DONE without change for the mode in force; SCRP sets scrape enable. HOST entries stay. -/
def Obligations.FrstAndScrpSetTheirModes : Prop :=
  ∀ (s : State), s.ready →
    let insulator (e : HeatEntry) : Bool := decide (e.origin = .auto ∧ 4 ≤ e.heater.val)
    let host (u : State) : List HeatEntry := u.icu.list.filter fun e => decide (e.origin = .host)
    (s.icu.frost = true → exec .frstOn s = .next (s.answered 0x35 (.ok .done []))) ∧
    (s.icu.frost = false → exec .frstOff s = .next (s.answered 0x35 (.ok .done []))) ∧
    (s.icu.frost = false →
      ∃ t, exec .frstOn s = .next t ∧ s.onlyHeating t ∧ t.icu.frost = true ∧
        t.vlp = s.vlp.afterAnswer (answerTo 0x35 (.ok .done [])) ∧
        (∀ h : Fin 6, 4 ≤ h.val → ∃ e ∈ t.icu.list, e.heater = h ∧ e.origin = .auto) ∧
        t.icu.list.filter (fun e => !insulator e) = s.icu.list.filter (fun e => !insulator e)) ∧
    (s.icu.frost = true →
      ∃ t, exec .frstOff s = .next t ∧ s.onlyHeating t ∧ t.icu.frost = false ∧
        t.vlp = s.vlp.afterAnswer (answerTo 0x35 (.ok .done [])) ∧
        t.icu.list = s.icu.list.filter (fun e => !insulator e)) ∧
    (∃ t, exec .scrpOn s = .next t ∧ s.sameOutside t ∧ t.icu.scrapeEnable = true ∧ t.icu.frost = s.icu.frost ∧
      host t = host s ∧ t.vlp = s.vlp.afterAnswer (answerTo 0x36 (.ok .done []))) ∧
    (∃ t, exec .scrpOff s = .next t ∧ s.sameOutside t ∧ t.icu.scrapeEnable = false ∧ t.icu.frost = s.icu.frost ∧
      host t = host s ∧ t.vlp = s.vlp.afterAnswer (answerTo 0x36 (.ok .done [])))


/-- R153 to R157, R160: an evaluation, here at SCRP and at a speed update, raises the lowest-numbered leading channel that is DOWN
with no role, no latch and a head that fits, when a scraper is wanted and possible and R66 accepts the raise; it withdraws one
that is up and no longer wanted, possible or fit to keep, to FALLING with cause COMMAND and no latch; otherwise every channel
stays as it was. A scraper channel that reaches DOWN or STUCK is none again where none is wanted. That the raise is accepted while
the channel's own isolator is still commanded CLOSED is the model's choice, log entry 45; that a HOUSED asserted already leaves a
withdrawn channel in FALLING is its choice too, log entry 34. -/
def Obligations.ScraperIsRaisedAndWithdrawn : Prop :=
  ∀ (s : State) (b : Bool), s.ready → s.rolesSingle → s.scraperHeld → s.breakerHeld →
    let judged (u t : State) : Prop :=
      let ice : Bool := match u.currentRec with | some r => r.ice | none => false
      let wanted : Bool := (ice && u.icu.scrapeEnable) ||
        (decide (u.par 39 = 1) && channels.any fun n => decide ((u.ch n).role = .collector) && (u.ch n).suspect)
      let open_ : Bool := match u.currentRec with | some r => decide (r.stretch.kindCode ≠ 3) | none => false
      let possible : Bool := decide (u.par 19 ≤ u.pos.speed) && decide (u.pos.speed ≤ u.par 20) && decide (u.mode = .run) &&
        (decide (u.csq.stage = .idle) || decide (u.csq.stage = .armed)) && open_ && u.inp.airok &&
        decide ((u.act .es).confirmed = .opened) && !u.icu.inhibit
      let fits (n : Fin 4) : Bool :=
        match u.currentRec with
        | none => false
        | some r => (match r.fit, u.head n with | .narrow, .wide => false | .wide, .narrow => false | _, _ => true)
      let candidate (n : Fin 4) : Bool := u.leads n && decide ((u.ch n).state = .down) && decide ((u.ch n).role = .none) &&
        decide ((u.ch n).latch = none) && fits n
      let still : Prop := t.icu.scraper = u.icu.scraper ∧ ∀ k, (t.ch k).state = (u.ch k).state ∧ (t.ch k).role = (u.ch k).role
      (u.icu.scraper = none →
        (wanted = true → possible = true → u.inp.emerg = false → (∀ k, (u.ch k).role ≠ .scraper) →
          ∀ n, candidate n = true → (∀ j, j < n → candidate j = false) →
            t.icu.scraper = some n ∧ (t.ch n).role = .scraper ∧ (t.ch n).state ≠ .down) ∧
        (wanted = false ∨ possible = false ∨ u.inp.emerg = true ∨ (∀ n, candidate n = false) → still)) ∧
      (∀ n, u.icu.scraper = some n →
        ((u.ch n).state.raised = true →
          if wanted = true ∧ possible = true ∧ u.leads n = true ∧ fits n = true then still
          else t.icu.scraper = some n ∧ (t.ch n).state = .falling ∧ (t.ch n).fallCause = some .command ∧
            (t.ch n).latch = (u.ch n).latch ∧ (t.ch n).role = (u.ch n).role) ∧
        ((u.ch n).state.raised = false → still))
    (∃ t, exec (if b then .scrpOn else .scrpOff) s = .next t ∧ judged (s.withIcu { s.icu with scrapeEnable := b }) t) ∧
    (∃ t, exec .speedIntervalEnd s = .next t ∧
      judged (s.withPos { s.pos with speed := min 4000 (s.pos.gate * s.par 1 * 9 / 50000), gate := 0, gateLeft := 800 }) t) ∧
    (∀ n, s.icu.scraper = some n → (s.ch n).state = .falling → s.icu.scrapeEnable = false → s.par 39 = 0 →
      (∃ t, exec (.housedAssert n) s = .next t ∧ t.icu.scraper = none) ∧
      ((s.ch n).fall.isSome = true → ∃ t, exec (.fallTimeout n) s = .next t ∧ t.icu.scraper = none))

/-- R149, R150: the head demand of a channel is that it is UP with the CURRENT record known and iced, or ice-suspect. Its rise
makes the AUTO entry of the channel's head heater, with priority 1 and P37, as the newest of priority 1; while it stays, and at
its fall, the list is left; a channel that reaches DOWN loses the entry. A change of the CURRENT record tests every channel:
here at a command that re-probes the map and, with no arc recorded and no channel suspect, at an axle edge. This is said in
STANDBY, where no plan is armed that would lower a channel, and in RUN for a map without system gaps. -/
def Obligations.HeadDemandsMakeTheirEntries : Prop :=
  ∀ (s : State) (n : Fin 4) (b z : Byte) (r g : Half) (f : SpanFields) (y : ZoneFields) (p q : Bool), s.calm → s.heatListHeld →
    let ice (u : State) : Bool := match u.currentRec with | some r => r.ice | none => false
    let demand (u : State) (k : Fin 4) : Bool := (decide ((u.ch k).state = .up) && ice u) || (u.ch k).suspect
    let head (k : Fin 4) : Fin 6 := ⟨k.val, Nat.lt_of_lt_of_le k.isLt (by decide)⟩
    let others := s.icu.list.filter fun e : HeatEntry => decide (e.heater ≠ head n ∨ e.origin ≠ .auto)
    let entry (k : Fin 4) : HeatEntry := { heater := head k, origin := .auto, priority := 1, remaining := s.par 37 }
    let tested (t : State) : Prop :=
      t.icu.demand.get n = demand t n ∧
      t.icu.list =
        (if demand t n = true ∧ s.icu.demand.get n = false then
           others.filter (fun e => decide (e.priority ≤ 1)) ++ [entry n] ++ others.filter (fun e => decide (1 < e.priority))
         else s.icu.list)
    (s.icu.demand.get n = demand s n →
      (∀ i, i ∈ [Instr.contactAssert n, .contactTimeout n, .riseTimeout n, .stripAssert n, .fallTimeout n] →
        ∃ t, exec i s = .next t ∧ tested t)) ∧
    ((s.ch n).state = .falling ∨ (s.ch n).state = .stuck →
      ∃ t, exec (.housedAssert n) s = .next t ∧ t.icu.demand.get n = false ∧ t.icu.list = others) ∧
    ((∀ k, s.icu.demand.get k = demand s k) →
      let plain (r : SectionRec) : Bool := decide (r.stretch.kindCode ≠ 2)
      let gapless : Prop := (∀ w ∈ s.rmap.watch, w.system = false) ∧ (∀ j, plain (s.rmap.zones.get j).content.record = true) ∧
        ∀ j, plain (s.rmap.spans.get j).content.head = true ∧
          ((s.rmap.spans.get j).content.tail.all fun x => plain x.2) = true
      (∀ i, (s.mode = .standby ∧ i ∈ [Instr.mapSweep, .mapc b, .mapp r g, .mapz z (some y), .mapz z none, .mapd z f, .maps f]) ∨
          (gapless ∧ i ∈ [Instr.mapSweep, .mapc b, .mapp r g]) ∨
          (s.mode = .standby ∧ (∀ k, (s.ch k).arcs = [] ∧ (s.ch k).suspect = false) ∧ i = .axleTransition p q) →
        ∃ t, exec i s = .next t ∧
          ∀ k, t.icu.demand.get k = demand t k ∧
            (demand t k = true → s.icu.demand.get k = false → entry k ∈ t.icu.list) ∧
            (demand t k = s.icu.demand.get k ∨ demand t k = false →
              ∀ e, e.heater = head k → (e ∈ t.icu.list ↔ e ∈ s.icu.list))))

/-! ## Roof Line Link -/

/-- R169: PEER is refused BUSY unless the role is JUNIOR and the conflict flag is clear. ON from DETACHED is refused
INTERLOCK while a channel holds role COLLECTOR, and otherwise asserts RQ and enters ASKING; ON in UNCOUPLING clears the detach
flag. OFF leaves ASKING for DETACHED, COUPLING and COUPLED for UNCOUPLING, and sets the detach flag in UNCOUPLING. -/
def Obligations.PeerAsksAndLeaves : Prop :=
  ∀ (s : State), s.ready →
    let open_ := s.par 40 = 2 ∧ s.rll.conflict = false
    let collector := ∃ n, (s.ch n).role = .collector
    (¬ open_ → exec .peerOn s = .next (s.answered 0x38 (.refused .busy 0)) ∧
      exec .peerOff s = .next (s.answered 0x38 (.refused .busy 0))) ∧
    (open_ → s.rll.state = .detached →
      exec .peerOff s = .next (s.answered 0x38 (.ok .done [])) ∧
      (collector → exec .peerOn s = .next (s.answered 0x38 (.refused .interlock 0))) ∧
      (¬ collector →
        ∃ t, exec .peerOn s = .next t ∧ s.sameOutside t ∧ t.vlp = s.vlp.afterAnswer (answerTo 0x38 (.ok .done [])) ∧
          (s.faultsHeld → t.rll.rq = true ∧ t.rll.state ≠ .detached) ∧
          (s.inp.gtIn = false → t.rll = { s.rll with state := .asking, rq := true }))) ∧
    (open_ → s.rll.state = .asking →
      exec .peerOn s = .next (s.answered 0x38 (.ok .done [])) ∧
      ∃ t, exec .peerOff s = .next t ∧ s.sameOutside t ∧ t.vlp = s.vlp.afterAnswer (answerTo 0x38 (.ok .done [])) ∧
        t.rll = { s.rll with state := .detached, rq := false }) ∧
    (open_ → s.rll.state = .coupling ∨ s.rll.state = .coupled →
      exec .peerOn s = .next (s.answered 0x38 (.ok .done [])) ∧
      ∃ t, exec .peerOff s = .next t ∧ s.sameOutside t ∧ t.vlp = s.vlp.afterAnswer (answerTo 0x38 (.ok .accepted [])) ∧
        ((t.rll.state = .uncoupling ∧ t.rll.detach = true) ∨ (t.rll.state = .detached ∧ t.rll.detach = false ∧ t.rll.rq = false))) ∧
    (open_ → s.rll.state = .uncoupling →
      exec .peerOn s = .next ((s.withRll { s.rll with detach := false }).answered 0x38 (.ok .done [])) ∧
      exec .peerOff s = .next ((s.withRll { s.rll with detach := true }).answered 0x38 (.ok .accepted [])))

/-- R164 to R168, R170, R173: a SENIOR that finds GT_in asserted, and a JUNIOR that finds RQ_in asserted, is in conflict, with
the flag set and its outputs dropped: a JUNIOR in ASKING leaves for DETACHED, and one in COUPLING, COUPLED or UNCOUPLING uncouples
toward DETACHED. A JUNIOR in ASKING without RQ_in couples on GT_in; RC confirmed CLOSED takes COUPLING to COUPLED with CPL; the
fall of GT_in takes both to UNCOUPLING, with PEER present and MB commanded OPEN, or through it where RC is found OPEN, also one
that opened by itself before MB has opened (the model's choice, log entry 36); and RC confirmed OPEN ends UNCOUPLING in DETACHED or ASKING. A SENIOR in HOLDING answers RQ_in with GRANTING in RUN with the sequencer in
IDLE or ARMED and with WITHHELD otherwise, and its fall with HOLDING; with role ALONE the inputs move nothing. -/
def Obligations.LinkFollowsItsInputs : Prop :=
  ∀ (s : State), s.work = [] → s.rll.conflict = false →
    (s.par 40 = 0 → ∀ b,
      (∃ t, exec (.gtInChange b) s = .next t ∧ t.rll = s.rll) ∧ (∃ t, exec (.rqInChange b) s = .next t ∧ t.rll = s.rll) ∧
      (∃ t, exec (.cplInChange b) s = .next t ∧ t.rll = s.rll)) ∧
    (s.par 40 = 1 → s.inp.gtIn = false →
      ∃ t, exec (.gtInChange true) s = .next t ∧ t.rll = { s.rll with state := .holding, gt := false, conflict := true }) ∧
    (s.par 40 = 2 → s.inp.rqIn = false →
      ∃ t, exec (.rqInChange true) s = .next t ∧ t.rll.conflict = true ∧
        (s.rll.state = .detached → t.rll = { s.rll with conflict := true }) ∧
        (s.rll.state = .asking → t.rll = { s.rll with state := .detached, rq := false, conflict := true }) ∧
        (s.rll.state = .coupling ∨ s.rll.state = .coupled ∨ s.rll.state = .uncoupling →
          t.rll.rq = false ∧ t.rll.cpl = false ∧
          ((t.rll.state = .uncoupling ∧ t.rll.detach = true) ∨ (t.rll.state = .detached ∧ t.rll.detach = false)))) ∧
    (s.par 40 = 2 → s.rll.state = .asking → s.inp.gtIn = false → s.inp.rqIn = false → (s.act .rc).fault = false →
      ∃ t, exec (.gtInChange true) s = .next t ∧ (t.rll.state = .coupling ∨ t.rll.state = .coupled)) ∧
    (s.par 40 = 1 → s.rll.state = .holding → s.inp.gtIn = false → s.inp.rqIn = false → s.csq.stage = .idle →
      ∃ t, exec (.rqInChange true) s = .next t ∧
        t.rll = (if s.mode = .run then { s.rll with state := .granting, gt := true }
                 else { s.rll with state := .withheld, gt := false })) ∧
    (s.par 40 = 1 → s.rll.state = .holding → s.inp.gtIn = false → s.inp.rqIn = false →
      ∃ t, exec (.rqInChange true) s = .next t ∧
        t.rll = (if t.mode = .run ∧ (t.csq.stage = .idle ∨ t.csq.stage = .armed) then { s.rll with state := .granting, gt := true }
                 else { s.rll with state := .withheld, gt := false }) ∧
        (s.csq.stage = .failed ∨ (s.csq.stage = .opening ∧ (s.act .mb).commanded = .opened ∧ (s.act .mb).motion = .settling ∧
              (s.act .mb).confirmed = .unsure ∧ (s.act .mb).fault = false) ∨
            (s.csq.stage = .lowering ∧ s.csq.timer.isSome = true ∧ s.inp.cplIn = true) ∨
            (s.csq.stage = .switching ∧ s.csq.switchWait = .running) →
          t.csq.stage = s.csq.stage)) ∧
    (s.par 40 = 2 → s.inp.gtIn = true → s.inp.rqIn = false → s.rll.state = .coupling ∨ s.rll.state = .coupled →
      let ended : Rll :=
        if s.rll.detach then { s.rll with state := .detached, rq := false, cpl := false, detach := false }
        else { s.rll with state := .asking, cpl := false }
      ∃ t, exec (.gtInChange false) s = .next t ∧
        (t.rll = ended ∨ (t.rll = { s.rll with state := .uncoupling } ∧ t.sgd.reasons.peer = true)) ∧
        (s.breakerHeld → s.linkHeld → s.linkFollowed → (t.act .mb).commanded = .opened) ∧
        ((s.act .rc).confirmed = .opened → t.rll = ended) ∧
        ((s.act .rc).confirmed ≠ .opened → s.par 10 ≠ 0 → t.rll.state = .uncoupling)) ∧
    (s.par 40 = 2 → s.inp.gtIn = true → s.rll.state = .coupling → s.arrives .rc .closed →
      ∃ t, exec (.settleSample .rc) s = .next t ∧ t.rll = { s.rll with state := .coupled, cpl := true }) ∧
    (s.par 40 = 2 → s.rll.state = .uncoupling → s.arrives .rc .opened → s.rll.detach = true ∨ s.inp.gtIn = false →
      ∃ t, exec (.settleSample .rc) s = .next t ∧
        t.rll = (if s.rll.detach then { s.rll with state := .detached, rq := false, cpl := false, detach := false }
                 else { s.rll with state := .asking, cpl := false }) ∧
        t.sgd.reasons.peer = false) ∧
    (s.par 40 = 1 → s.rll.state = .granting ∨ s.rll.state = .withheld → s.inp.gtIn = false → s.inp.rqIn = true →
      ∃ t, exec (.rqInChange false) s = .next t ∧ t.rll = { s.rll with state := .holding, gt := false })

/-! ## Event Router -/

/-- R178 to R181: EVRT reads and writes route entries and lines, a written line being INACTIVE with its timer stopped and no
first cause; SLAK clears the LATCH lines it names and answers each line's state and each cause cleared; a pulse's end makes a
PULSE line INACTIVE. Nothing else changes. These clauses are the model's choice: notify is set by every code but 0, log entry
17; 0xFF stands for no first cause, log entry 18; bit k of a mask names SLk and the line state is 0 or 1, log entry 37; and
PULSE_END acts whatever time is left and changes nothing without a timer, log entry 11. -/
def Obligations.RouterCommandsWriteTheirTables : Prop :=
  ∀ (s : State) (e : Fin 24) (l : Fin 3) (b m : Byte) (v : Half), s.ready →
    let n8 (k : Nat) : Byte := BitVec.ofNat 8 k
    let entry (r : RouteEntry) : List Byte := [n8 (bit r.notify), n8 r.mask.toNat, 0, 0, 0, 0]
    let cause (x : SignalLine) : Byte := n8 (x.first.getD 0xFF)
    let line (x : SignalLine) : List Byte := [n8 (bit x.latch), 0] ++ be2 x.length ++ [n8 (bit x.active), cause x]
    let cut : Nat := if v.toNat < 100 then 100 else if 2000 < v.toNat then 2000 else v.toNat
    let fresh (latch : Bool) : SignalLine := { latch := latch, length := cut, active := false, timer := none, first := none }
    let named (k : Fin 3) : Bool := m.getLsbD k.val && (s.evr.lines.get k).latch
    let after (k : Fin 3) : SignalLine :=
      if named k then { s.evr.lines.get k with active := false, first := none } else s.evr.lines.get k
    exec (.evrtRead 0 (n8 e.val)) s = .next (s.answered 0x06 (.ok .done (entry (s.evr.routes.get e)))) ∧
    exec (.evrtRead 1 (n8 l.val)) s = .next (s.answered 0x06 (.ok .done (line (s.evr.lines.get l)))) ∧
    (m.toNat < 8 →
      let r : RouteEntry := { notify := decide (b ≠ 0), mask := m.setWidth 3 }
      exec (.evrtWriteEvent (n8 e.val) b m) s =
        .next ((s.withEvr { s.evr with routes := s.evr.routes.set e.val r e.isLt }).answered 0x06 (.ok .done (entry r)))) ∧
    (∀ latch : Bool,
      exec (.evrtWriteLine (n8 l.val) (n8 (bit latch)) v) s =
        .next ((s.withEvr { s.evr with lines := s.evr.lines.set l.val (fresh latch) l.isLt }).answered 0x06
          (.ok (if cut = v.toNat then .done else .clamped) (line (fresh latch))))) ∧
    (m.toNat < 8 →
      exec (.slak m) s =
        .next ((s.withEvr { s.evr with lines := #v[after 0, after 1, after 2] }).answered 0x07 (.ok .done
          ([n8 (bit (after 0).active + 2 * bit (after 1).active + 4 * bit (after 2).active)] ++
           ([0, 1, 2] : List (Fin 3)).map fun k => if named k then cause (s.evr.lines.get k) else 0xFF)))) ∧
    ((s.evr.lines.get l).latch = false → (s.evr.lines.get l).timer.isSome = true →
      exec (.pulseEnd l) s = .next (s.withEvr { s.evr with
        lines := s.evr.lines.set l.val { s.evr.lines.get l with active := false, timer := none } l.isLt })) ∧
    ((s.evr.lines.get l).latch = true ∨ (s.evr.lines.get l).timer = none → exec (.pulseEnd l) s = .next s)

/-- R177, R179, R180, R182, R183: an event raised while nothing may be handed over joins the queue of fewer than 16, or
replaces the newest notice of its number with the coalesced mark, or is dropped with LOST set; each line of its mask starts
its pulse afresh or takes its first cause. -/
def Obligations.EventsAreQueuedAndShown : Prop :=
  ∀ (s : State) (e : Event), s.noticesHeld = true →
    let r := s.evr.routes.get e.num
    let q := s.evr.queue
    let t := raise e s
    (r.notify = false → t.evr.queue = q ∧ t.evr.lost = s.evr.lost) ∧
    (r.notify = true → q.length < 16 → t.evr.queue = q ++ [{ event := e, coalesced := false }] ∧ t.evr.lost = s.evr.lost) ∧
    (r.notify = true → 16 ≤ q.length → ∀ before x after, q = before ++ x :: after → x.event.num = e.num →
      (∀ y ∈ after, y.event.num ≠ e.num) →
      t.evr.queue = before ++ { event := e, coalesced := true } :: after ∧ t.evr.lost = s.evr.lost) ∧
    (r.notify = true → 16 ≤ q.length → (∀ y ∈ q, y.event.num ≠ e.num) → t.evr.queue = q ∧ t.evr.lost = true) ∧
    (∀ k : Fin 3, t.evr.lines.get k =
      (let l := s.evr.lines.get k
       if r.mask.getLsbD k.val = false then l
       else if l.latch = false then { l with active := true, timer := some (4 * l.length) }
       else if l.active then l
       else { l with active := true, first := some e.num.val })) ∧
    t.evr.routes = s.evr.routes ∧ t = s.withEvr t.evr

/-! ## Vehicle Link Port -/

/-- R187 to R190, R193: in HUNT, the characters of a frame with a payload of at most 48 bytes and the right check reach the
command handling: a kind that is no command kind sets link-error, a command is taken when none is in hand, waits, or overruns,
one whose kind names no command is answered UNKNOWN with its tag, and one whose length is none of its kind's, or disagrees with
MAPZ's variant, is answered LENGTH. A wrong check sets link-error and nothing more. The check runs over the bytes from 0xFFFF
with the polynomial 0x1021, most significant bit first. That an undefined variant is refused RANGE with the offset told here is
the model's choice, log entry 19. A character error and an over-long length discard the frame in course and set link-error, a
pause discards it without. That CHARACTER_ERROR and OVER_LONG act alike in every receiver state is the model's choice, log entry
20, and so is that FRAME_GAP_TIMEOUT acts whatever time has passed and changes nothing in HUNT, log entry 11. -/
def Obligations.FramesAreReceivedOrDiscarded : Prop :=
  ∀ (s : State) (f : TxFrame) (hi lo : Byte) (k g : Byte),
    (s.vlp.rx = .hunt → s.vlp.rxBuf = [] → f.payload.length ≤ 48 →
      let u := s.withVlp { s.vlp with rxSince := 0 }
      let body := [f.kind, f.tag, BitVec.ofNat 8 f.payload.length] ++ f.payload
      let r : Received := { kind := f.kind, tag := f.tag, content := decodeCommand f.kind f.payload }
      let commandFrame := 1 ≤ f.kind.toNat ∧ f.kind.toNat ≤ 0x3F
      let idle := s.vlp.inHand = [] ∧ s.vlp.carrying = false ∧ s.vlp.resetPending = false
      crc [] = 0xFFFF ∧
      (∀ (l : List Byte) (b : Byte), crc (l ++ [b]) =
        (List.range 8).foldl
          (fun (x : BitVec 16) k => if x.getMsbD 0 = b.getMsbD k then x <<< 1 else (x <<< 1) ^^^ 0x1021) (crc l)) ∧
      (hi ++ lo ≠ crc body →
        exec (.frameReceived ([0xC3] ++ body ++ [hi, lo])) s = .next (u.withVlp { u.vlp with linkError := true })) ∧
      (hi ++ lo = crc body →
        let i := Instr.frameReceived ([0xC3] ++ body ++ [hi, lo])
        (¬ commandFrame → exec i s = .next (u.withVlp { u.vlp with linkError := true })) ∧
        (commandFrame → ¬ idle →
          exec i s = .next (u.withVlp
            (if u.vlp.waiting.isSome then { u.vlp with overrun := true } else { u.vlp with waiting := some r }))) ∧
        (commandFrame → idle → exec i s = .next (takeCommand r u)) ∧
        (commandFrame → idle → s.work = [] → commandKinds.contains f.kind.toNat = false →
          exec i s = .next (u.withVlp (u.vlp.afterAnswer
            { kind := f.kind + 0x40, tag := f.tag, payload := [0x10, 0, 0] }))) ∧
        (commandFrame → idle → s.work = [] → wrongLength f.kind.toNat f.payload = true →
          exec i s = .next (u.withVlp (u.vlp.afterAnswer
            { kind := f.kind + 0x40, tag := f.tag, payload := [0x11, 0, 0] }))) ∧
        (commandFrame → idle → s.work = [] → wrongLength f.kind.toNat f.payload = false →
          ∀ o, badVariant f.kind.toNat f.payload = some o →
            exec i s = .next (u.withVlp (u.vlp.afterAnswer
              { kind := f.kind + 0x40, tag := f.tag, payload := [0x12, 0, BitVec.ofNat 8 o] }))))) ∧
    let gone := { s.vlp with rx := RxState.hunt, rxBuf := [] }
    exec .characterError s = .next (s.withVlp { gone with linkError := true }) ∧
    exec .overLongPayloadLength s = .next (s.withVlp { gone with linkError := true }) ∧
    exec .frameGapTimeout s = .next (s.withVlp gone) ∧
    (k.toNat = 0 ∨ 0x40 ≤ k.toNat → exec (.unknownCommand k g) s = .next (s.withVlp { s.vlp with linkError := true })) ∧
    ((Instr.unknownCommand k g).wellFormed = true → s.ready → s.vlp.inHand = [] → s.vlp.carrying = false →
      exec (.unknownCommand k g) s =
        .next (s.withVlp (s.vlp.afterAnswer { kind := k + 0x40, tag := g, payload := [0x10, 0, 0] })))

/-- R184, R190, R192: at the end of a frame the oldest answer in hand is sent, else the oldest notice with LOST in its flags
byte and LOST cleared, else the transmitter is IDLE; the beginning of the last answer takes the waiting command. Several answers
in hand come only of commands given as their rows: their order is the model's choice, log entry 8. -/
def Obligations.TransmitterChoosesAnswersFirst : Prop :=
  ∀ (s : State) (f : TxFrame), s.vlp.tx = some f → s.vlp.resetPending = false →
    (∀ a b rest, s.vlp.inHand = a :: b :: rest →
      exec .transmitFrameEnd s = .next (s.withVlp { s.vlp with tx := some a, txElapsed := 0, inHand := b :: rest })) ∧
    (∀ a, s.vlp.inHand = [a] →
      let u := s.withVlp { s.vlp with tx := some a, txElapsed := 0, inHand := [], waiting := none }
      exec .transmitFrameEnd s = .next (match s.vlp.waiting with | none => u | some r => takeCommand r u)) ∧
    (s.vlp.inHand = [] → ∀ n rest, s.evr.queue = n :: rest →
      exec .transmitFrameEnd s = .next ((s.withEvr { s.evr with queue := rest, lost := false }).withVlp
        { s.vlp with
          txElapsed := 0
          tx := some { kind := BitVec.ofNat 8 (0x80 + n.event.num.val), tag := 0
                       payload := be1 (bit s.evr.lost + 2 * bit n.coalesced) ++ n.event.bytes } })) ∧
    (s.vlp.inHand = [] → s.evr.queue = [] →
      exec .transmitFrameEnd s = .next (s.withVlp { s.vlp with tx := none, txElapsed := 0 }))

/-- R190, R194, R195, R197: MODE sets the mode and is DONE; RSTW is DONE and lets nothing more be taken; SETP checks number, mode,
code, owner and force in that order, stores the value, clamped to its range, and answers what it stored. Between the answer to
RSTW and the warm reset no command is taken: it waits, or with one waiting it is discarded and the overrun flag set. That a
command row meets the same rule is the model's choice, log entry 8. -/
def Obligations.ModeResetAndParametersAreSet : Prop :=
  ∀ (s : State) (n : Fin 46) (v : Half) (c : Instr) (kind : Nat),
    (commandKind c = some kind → s.vlp.resetPending = true →
      exec c s = .next (s.withVlp
        (if s.vlp.waiting.isSome then { s.vlp with overrun := true }
         else { s.vlp with waiting := some { kind := BitVec.ofNat 8 kind, tag := 0, content := .command c } }))) ∧
    (s.ready →
      let k := n.val + 1
      let i := Instr.setp (BitVec.ofNat 8 k) v
      let range := paramRanges.getD n.val (0, 0)
      let w := if v.toNat < range.1 then range.1 else if range.2 < v.toNat then range.2 else v.toNat
      let standby := k ∈ [1, 7, 8, 40, 42, 43, 44, 45]
      let badCode :=
        ((k = 38 ∨ k = 39) ∧ 1 < v.toNat) ∨ (k = 40 ∧ 2 < v.toNat) ∨
        (42 ≤ k ∧ k ≤ 45 ∧ (v &&& 0xF0FC ≠ 0 ∨ v &&& 0x0F00 = 0))
      let busy :=
        (k = 40 ∧ s.par 40 = 2 ∧ (s.rll.state = .coupling ∨ s.rll.state = .coupled ∨ s.rll.state = .uncoupling)) ∨
        (∃ c : Fin 4, k = 42 + c.val ∧ (s.ch c).state ≠ .down ∧ (s.ch c).state ≠ .isolated)
      let badForce := (k = 16 ∧ s.par 17 ≤ w) ∨ (k = 17 ∧ w ≤ s.par 16)
      (if s.mode = .run then exec .modeRun s = .next (s.answered 0x02 (.ok .done []))
       else exec .modeStandby s = .next (s.answered 0x02 (.ok .done []))) ∧
      (∃ t, exec .modeRun s = .next t ∧ t.mode = .run ∧ t.vlp = s.vlp.afterAnswer (answerTo 0x02 (.ok .done [])) ∧
        (s.withMode .run).sameOutside t) ∧
      (∃ t, exec .modeStandby s = .next t ∧ t.mode = .standby ∧ t.vlp = s.vlp.afterAnswer (answerTo 0x02 (.ok .done [])) ∧
        (s.withMode .standby).sameOutside t) ∧
      exec .rstw s = .next ((s.withVlp { s.vlp with resetPending := true }).answered 0x03 (.ok .done [])) ∧
      (if standby ∧ s.mode = .run then exec i s = .next (s.answered 0x04 (.refused .mode 0))
       else if badCode then exec i s = .next (s.answered 0x04 (.refused .range 1))
       else if busy then exec i s = .next (s.answered 0x04 (.refused .busy 0))
       else if badForce then exec i s = .next (s.answered 0x04 (.refused .range 1))
       else
         ∃ t, exec i s = .next t ∧ (s.withParams (s.params.set n.val w n.isLt)).sameOutside t ∧
           t.vlp = s.vlp.afterAnswer (answerTo 0x04 (.ok (if w = v.toNat then .done else .clamped) (be2 w)))))

/-! ## Resets -/

/-- R17, R41, R55, R60, R87, R114, R142, R162, R175, R185, R196: power-on gives every block its power-on values: a channel
DOWN or FALLING by its HOUSED input and latched POWER_ON, every actuator but TA and TD commanded OPEN and confirmed from its
feedbacks, the input levels kept. These clauses are the model's choice: the content of a map entry never written, log entry 4;
what the probes hold before the first round, log entry 5; the queue and the input levels kept, log entry 10; the confirmed
position UNSURE in a motion begun at power-on, log entry 15; and the fall cause none of a channel found DOWN, log entry 28. -/
def Obligations.PowerOnGivesThePowerOnValues : Prop :=
  ∀ (s : State), ∃ t, exec .powerOn s = .next t ∧
    t.inp = s.inp ∧ t.pending = s.pending ∧ t.mode = .standby ∧ t.params = paramDefaults ∧
    t.pos = { State.reset.pos with phaseA := s.pos.phaseA, phaseB := s.pos.phaseB } ∧
    t.rmap = State.reset.rmap ∧ t.lcl = State.reset.lcl ∧ t.csq = State.reset.csq ∧ t.icu = State.reset.icu ∧
    t.rll = State.reset.rll ∧ t.evr = State.reset.evr ∧ t.vlp = State.reset.vlp ∧ t.ftabs = State.reset.ftabs ∧
    (∀ n, t.ch n =
      { state := if s.inp.housed.get n then .down else .falling
        role := .none, fallCause := if s.inp.housed.get n then none else some .powerOn, latch := some .powerOn
        snapshot := none, setpoint := 0, stroke := none, rise := none
        fall := if s.inp.housed.get n then none else some 40000, contact := none, arcs := [], suspect := false }) ∧
    (∀ a, a ≠ .ta → a ≠ .td →
      (t.act a).commanded = .opened ∧ (t.act a).fault = false ∧ (t.act a).pending = none ∧
      ((t.act a).motion = .settling ↔ s.fb a = .closed) ∧
      ((t.act a).confirmed = .opened ↔ s.fb a = .opened ∧ s.travel a = false)) ∧
    (∀ a, a = .ta ∨ a = .td → s.travel a = false →
      (t.act a).commanded = s.fb a ∧ (t.act a).confirmed = confirmedAt (s.fb a) ∧ (t.act a).motion = .none) ∧
    (∀ a, a = .ta ∨ a = .td → s.travel a = true →
      (t.act a).commanded = (s.act a).commanded ∧ (t.act a).confirmed = .unsure) ∧
    (∀ a, (t.act a).fault = false ∧ (t.act a).pending = none) ∧
    t.sgd.guardKa = (if (t.act .ka).confirmed = .opened then some 1200 else none) ∧
    t.sgd.guardKd = (if (t.act .kd).confirmed = .opened then some 1200 else none) ∧
    t.sgd.proc = none ∧ t.sgd.isoWait = none ∧ t.sgd.armed = false ∧ t.sgd.reasons.stby = true ∧
    t.sgd.reasons.line = true ∧ t.sgd.reasons.weld = false ∧ t.sgd.reasons.hold = false ∧
    (s.inp = State.reset.inp → t.chans = State.reset.chans ∧ t.sgd = State.reset.sgd)

/-- R18, R42, R56, R60, R88, R114, R142, R162, R175, R186, R195: at the end of the answer to RSTW the part takes its
warm-reset values: STANDBY, parameters, force tables, position, capture and route sense kept, ISOLATED channels and snapshots
kept, every latch set with cause RESET, a channel not ISOLATED given that fall cause and one found FALLING the time P14,
unpinned span entries gone, the classifier and the sequencer as after power-on, commands and frames in the port dropped. Every
actuator is without fault and request, TA and TD commanded to their feedback, or as before with travel asserted, the others
OPEN, each confirmed from its feedback or set moving. The link has its role's initial state, a SENIOR with RQ_in WITHHELD, with
its outputs dropped and its flags clear but for a conflict found on the inputs. The end of another frame before it, also of a
refused RSTW's answer, is followed by the next answer in hand; it resets nothing, takes no waiting command and hands over no
notice. The confirmed position UNSURE in a motion begun here is the model's choice, log entry 15; the fall cause that an
ISOLATED channel keeps is another, log entry 28. -/
def Obligations.WarmResetGivesTheWarmValues : Prop :=
  ∀ (s : State) (f : TxFrame), s.vlp.tx = some f → s.vlp.resetPending = true →
    (¬ (f.kind = 0x43 ∧ f.payload = [0]) → ∀ a rest, s.vlp.inHand = a :: rest →
      exec .transmitFrameEnd s = .next (s.withVlp { s.vlp with tx := some a, txElapsed := 0, inHand := rest })) ∧
    (f.kind = 0x43 → f.payload = [0] → ∃ t, exec .transmitFrameEnd s = .next t ∧
      t.inp = s.inp ∧ t.pending = s.pending ∧ t.mode = .standby ∧ t.params = s.params ∧ t.ftabs = s.ftabs ∧
      t.pos = { s.pos with reversal := 0, gate := 0, gateLeft := 800 } ∧ t.lcl = State.reset.lcl ∧
      t.csq.stage = .idle ∧ t.csq.plan = none ∧ t.csq.failReason = none ∧ t.csq.declined = none ∧
      t.icu.list = [] ∧ t.icu.frost = false ∧ t.icu.scrapeEnable = false ∧ t.icu.inhibit = false ∧ t.icu.scraper = none ∧
      t.evr.routes = s.evr.routes ∧
      (∀ k, (t.evr.lines.get k).latch = (s.evr.lines.get k).latch ∧ (t.evr.lines.get k).length = (s.evr.lines.get k).length) ∧
      t.vlp.rx = .hunt ∧ t.vlp.rxBuf = [] ∧ t.vlp.inHand = [] ∧ t.vlp.waiting = none ∧ t.vlp.linkError = false ∧
      t.vlp.overrun = false ∧ t.vlp.resetPending = false ∧
      (∀ n,
        let falls : Prop := (s.ch n).state ≠ .isolated ∧ s.inp.housed.get n = false
        t.ch n =
          { state := if (s.ch n).state = .isolated then .isolated else if s.inp.housed.get n then .down else .falling
            role := .none, fallCause := if (s.ch n).state = .isolated then (s.ch n).fallCause else some .reset
            latch := some .reset, snapshot := (s.ch n).snapshot, setpoint := 0, stroke := none, rise := none
            fall := if falls then some (4000 * s.par 14) else none, contact := none, arcs := [], suspect := false }) ∧
      (∀ j, (s.rmap.spans.get j).content.pinned = false → (t.rmap.spans.get j).valid = false) ∧
      (∀ j, (t.rmap.spans.get j).content = (s.rmap.spans.get j).content) ∧
      (∀ j, (t.rmap.zones.get j).content = (s.rmap.zones.get j).content) ∧
      (∀ a, (t.act a).fault = false ∧ (t.act a).pending = none) ∧
      (∀ a, a ≠ .ta → a ≠ .td →
        (t.act a).commanded = .opened ∧ ((t.act a).motion = .settling ↔ s.fb a = .closed) ∧
        ((t.act a).motion = .none ↔ s.fb a = .opened) ∧
        ((t.act a).confirmed = .opened ↔ s.fb a = .opened ∧ s.travel a = false) ∧ (t.act a).confirmed ≠ .closed) ∧
      (∀ a, a = .ta ∨ a = .td →
        (s.travel a = false →
          (t.act a).commanded = s.fb a ∧ (t.act a).confirmed = confirmedAt (s.fb a) ∧ (t.act a).motion = .none) ∧
        (s.travel a = true →
          (t.act a).commanded = (s.act a).commanded ∧ (t.act a).confirmed = .unsure ∧
          ((t.act a).motion = .settling ↔ s.fb a ≠ (s.act a).commanded))) ∧
      t.sgd.guardKa = (if (t.act .ka).confirmed = .opened then some (80 * s.par 12) else none) ∧
      t.sgd.guardKd = (if (t.act .kd).confirmed = .opened then some (80 * s.par 12) else none) ∧
      t.sgd.proc = none ∧ t.sgd.isoWait = none ∧
      (let conflict : Bool := decide (s.par 40 = 1 ∧ s.inp.gtIn = true ∨ s.par 40 = 2 ∧ s.inp.rqIn = true)
       t.rll =
         { state := if s.par 40 = 1 then (if s.inp.rqIn = true ∧ conflict = false then .withheld else .holding) else .detached
           rq := false, gt := false, cpl := false, conflict := conflict, detach := false }) ∧
      t.sgd.reasons.peer = false ∧ t.sgd.reasons.weld = s.sgd.reasons.weld ∧ t.sgd.reasons.stby = true ∧
      t.sgd.reasons.hold = false ∧ t.sgd.reasons.selftrip = false ∧ t.sgd.reasons.seqfail = false ∧ t.sgd.armed = false)

end
end

