-- ==== Sys2Proof/Laws/State.lean ====
section
/-! SUPPORT. One lemma for each field and each update of the state: an update changes its own field and no other. -/

namespace Sys2Proof.Machine

section withInp
variable (s : State) (x : Inputs)
@[simp] theorem State.withInp_inp : (s.withInp x).inp = x := rfl
@[simp] theorem State.withInp_pos : (s.withInp x).pos = s.pos := rfl
@[simp] theorem State.withInp_rmap : (s.withInp x).rmap = s.rmap := rfl
@[simp] theorem State.withInp_lcl : (s.withInp x).lcl = s.lcl := rfl
@[simp] theorem State.withInp_chans : (s.withInp x).chans = s.chans := rfl
@[simp] theorem State.withInp_ftabs : (s.withInp x).ftabs = s.ftabs := rfl
@[simp] theorem State.withInp_sgd : (s.withInp x).sgd = s.sgd := rfl
@[simp] theorem State.withInp_csq : (s.withInp x).csq = s.csq := rfl
@[simp] theorem State.withInp_icu : (s.withInp x).icu = s.icu := rfl
@[simp] theorem State.withInp_rll : (s.withInp x).rll = s.rll := rfl
@[simp] theorem State.withInp_evr : (s.withInp x).evr = s.evr := rfl
@[simp] theorem State.withInp_vlp : (s.withInp x).vlp = s.vlp := rfl
@[simp] theorem State.withInp_mode : (s.withInp x).mode = s.mode := rfl
@[simp] theorem State.withInp_params : (s.withInp x).params = s.params := rfl
@[simp] theorem State.withInp_pending : (s.withInp x).pending = s.pending := rfl
@[simp] theorem State.withInp_work : (s.withInp x).work = s.work := rfl
@[simp] theorem State.withInp_same : s.withInp s.inp = s := rfl
@[simp] theorem State.withInp_withInp (y : Inputs) : (s.withInp x).withInp y = s.withInp y := rfl
end withInp

section withPos
variable (s : State) (x : Pos)
@[simp] theorem State.withPos_inp : (s.withPos x).inp = s.inp := rfl
@[simp] theorem State.withPos_pos : (s.withPos x).pos = x := rfl
@[simp] theorem State.withPos_rmap : (s.withPos x).rmap = s.rmap := rfl
@[simp] theorem State.withPos_lcl : (s.withPos x).lcl = s.lcl := rfl
@[simp] theorem State.withPos_chans : (s.withPos x).chans = s.chans := rfl
@[simp] theorem State.withPos_ftabs : (s.withPos x).ftabs = s.ftabs := rfl
@[simp] theorem State.withPos_sgd : (s.withPos x).sgd = s.sgd := rfl
@[simp] theorem State.withPos_csq : (s.withPos x).csq = s.csq := rfl
@[simp] theorem State.withPos_icu : (s.withPos x).icu = s.icu := rfl
@[simp] theorem State.withPos_rll : (s.withPos x).rll = s.rll := rfl
@[simp] theorem State.withPos_evr : (s.withPos x).evr = s.evr := rfl
@[simp] theorem State.withPos_vlp : (s.withPos x).vlp = s.vlp := rfl
@[simp] theorem State.withPos_mode : (s.withPos x).mode = s.mode := rfl
@[simp] theorem State.withPos_params : (s.withPos x).params = s.params := rfl
@[simp] theorem State.withPos_pending : (s.withPos x).pending = s.pending := rfl
@[simp] theorem State.withPos_work : (s.withPos x).work = s.work := rfl
@[simp] theorem State.withPos_same : s.withPos s.pos = s := rfl
@[simp] theorem State.withPos_withPos (y : Pos) : (s.withPos x).withPos y = s.withPos y := rfl
end withPos

section withRmap
variable (s : State) (x : Rmap)
@[simp] theorem State.withRmap_inp : (s.withRmap x).inp = s.inp := rfl
@[simp] theorem State.withRmap_pos : (s.withRmap x).pos = s.pos := rfl
@[simp] theorem State.withRmap_rmap : (s.withRmap x).rmap = x := rfl
@[simp] theorem State.withRmap_lcl : (s.withRmap x).lcl = s.lcl := rfl
@[simp] theorem State.withRmap_chans : (s.withRmap x).chans = s.chans := rfl
@[simp] theorem State.withRmap_ftabs : (s.withRmap x).ftabs = s.ftabs := rfl
@[simp] theorem State.withRmap_sgd : (s.withRmap x).sgd = s.sgd := rfl
@[simp] theorem State.withRmap_csq : (s.withRmap x).csq = s.csq := rfl
@[simp] theorem State.withRmap_icu : (s.withRmap x).icu = s.icu := rfl
@[simp] theorem State.withRmap_rll : (s.withRmap x).rll = s.rll := rfl
@[simp] theorem State.withRmap_evr : (s.withRmap x).evr = s.evr := rfl
@[simp] theorem State.withRmap_vlp : (s.withRmap x).vlp = s.vlp := rfl
@[simp] theorem State.withRmap_mode : (s.withRmap x).mode = s.mode := rfl
@[simp] theorem State.withRmap_params : (s.withRmap x).params = s.params := rfl
@[simp] theorem State.withRmap_pending : (s.withRmap x).pending = s.pending := rfl
@[simp] theorem State.withRmap_work : (s.withRmap x).work = s.work := rfl
@[simp] theorem State.withRmap_same : s.withRmap s.rmap = s := rfl
@[simp] theorem State.withRmap_withRmap (y : Rmap) : (s.withRmap x).withRmap y = s.withRmap y := rfl
end withRmap

section withLcl
variable (s : State) (x : Lcl)
@[simp] theorem State.withLcl_inp : (s.withLcl x).inp = s.inp := rfl
@[simp] theorem State.withLcl_pos : (s.withLcl x).pos = s.pos := rfl
@[simp] theorem State.withLcl_rmap : (s.withLcl x).rmap = s.rmap := rfl
@[simp] theorem State.withLcl_lcl : (s.withLcl x).lcl = x := rfl
@[simp] theorem State.withLcl_chans : (s.withLcl x).chans = s.chans := rfl
@[simp] theorem State.withLcl_ftabs : (s.withLcl x).ftabs = s.ftabs := rfl
@[simp] theorem State.withLcl_sgd : (s.withLcl x).sgd = s.sgd := rfl
@[simp] theorem State.withLcl_csq : (s.withLcl x).csq = s.csq := rfl
@[simp] theorem State.withLcl_icu : (s.withLcl x).icu = s.icu := rfl
@[simp] theorem State.withLcl_rll : (s.withLcl x).rll = s.rll := rfl
@[simp] theorem State.withLcl_evr : (s.withLcl x).evr = s.evr := rfl
@[simp] theorem State.withLcl_vlp : (s.withLcl x).vlp = s.vlp := rfl
@[simp] theorem State.withLcl_mode : (s.withLcl x).mode = s.mode := rfl
@[simp] theorem State.withLcl_params : (s.withLcl x).params = s.params := rfl
@[simp] theorem State.withLcl_pending : (s.withLcl x).pending = s.pending := rfl
@[simp] theorem State.withLcl_work : (s.withLcl x).work = s.work := rfl
@[simp] theorem State.withLcl_same : s.withLcl s.lcl = s := rfl
@[simp] theorem State.withLcl_withLcl (y : Lcl) : (s.withLcl x).withLcl y = s.withLcl y := rfl
end withLcl

section withChans
variable (s : State) (x : Vector Channel 4)
@[simp] theorem State.withChans_inp : (s.withChans x).inp = s.inp := rfl
@[simp] theorem State.withChans_pos : (s.withChans x).pos = s.pos := rfl
@[simp] theorem State.withChans_rmap : (s.withChans x).rmap = s.rmap := rfl
@[simp] theorem State.withChans_lcl : (s.withChans x).lcl = s.lcl := rfl
@[simp] theorem State.withChans_chans : (s.withChans x).chans = x := rfl
@[simp] theorem State.withChans_ftabs : (s.withChans x).ftabs = s.ftabs := rfl
@[simp] theorem State.withChans_sgd : (s.withChans x).sgd = s.sgd := rfl
@[simp] theorem State.withChans_csq : (s.withChans x).csq = s.csq := rfl
@[simp] theorem State.withChans_icu : (s.withChans x).icu = s.icu := rfl
@[simp] theorem State.withChans_rll : (s.withChans x).rll = s.rll := rfl
@[simp] theorem State.withChans_evr : (s.withChans x).evr = s.evr := rfl
@[simp] theorem State.withChans_vlp : (s.withChans x).vlp = s.vlp := rfl
@[simp] theorem State.withChans_mode : (s.withChans x).mode = s.mode := rfl
@[simp] theorem State.withChans_params : (s.withChans x).params = s.params := rfl
@[simp] theorem State.withChans_pending : (s.withChans x).pending = s.pending := rfl
@[simp] theorem State.withChans_work : (s.withChans x).work = s.work := rfl
@[simp] theorem State.withChans_same : s.withChans s.chans = s := rfl
@[simp] theorem State.withChans_withChans (y : Vector Channel 4) : (s.withChans x).withChans y = s.withChans y := rfl
end withChans

section withFtabs
variable (s : State) (x : ForceTables)
@[simp] theorem State.withFtabs_inp : (s.withFtabs x).inp = s.inp := rfl
@[simp] theorem State.withFtabs_pos : (s.withFtabs x).pos = s.pos := rfl
@[simp] theorem State.withFtabs_rmap : (s.withFtabs x).rmap = s.rmap := rfl
@[simp] theorem State.withFtabs_lcl : (s.withFtabs x).lcl = s.lcl := rfl
@[simp] theorem State.withFtabs_chans : (s.withFtabs x).chans = s.chans := rfl
@[simp] theorem State.withFtabs_ftabs : (s.withFtabs x).ftabs = x := rfl
@[simp] theorem State.withFtabs_sgd : (s.withFtabs x).sgd = s.sgd := rfl
@[simp] theorem State.withFtabs_csq : (s.withFtabs x).csq = s.csq := rfl
@[simp] theorem State.withFtabs_icu : (s.withFtabs x).icu = s.icu := rfl
@[simp] theorem State.withFtabs_rll : (s.withFtabs x).rll = s.rll := rfl
@[simp] theorem State.withFtabs_evr : (s.withFtabs x).evr = s.evr := rfl
@[simp] theorem State.withFtabs_vlp : (s.withFtabs x).vlp = s.vlp := rfl
@[simp] theorem State.withFtabs_mode : (s.withFtabs x).mode = s.mode := rfl
@[simp] theorem State.withFtabs_params : (s.withFtabs x).params = s.params := rfl
@[simp] theorem State.withFtabs_pending : (s.withFtabs x).pending = s.pending := rfl
@[simp] theorem State.withFtabs_work : (s.withFtabs x).work = s.work := rfl
@[simp] theorem State.withFtabs_same : s.withFtabs s.ftabs = s := rfl
@[simp] theorem State.withFtabs_withFtabs (y : ForceTables) : (s.withFtabs x).withFtabs y = s.withFtabs y := rfl
end withFtabs

section withSgd
variable (s : State) (x : Sgd)
@[simp] theorem State.withSgd_inp : (s.withSgd x).inp = s.inp := rfl
@[simp] theorem State.withSgd_pos : (s.withSgd x).pos = s.pos := rfl
@[simp] theorem State.withSgd_rmap : (s.withSgd x).rmap = s.rmap := rfl
@[simp] theorem State.withSgd_lcl : (s.withSgd x).lcl = s.lcl := rfl
@[simp] theorem State.withSgd_chans : (s.withSgd x).chans = s.chans := rfl
@[simp] theorem State.withSgd_ftabs : (s.withSgd x).ftabs = s.ftabs := rfl
@[simp] theorem State.withSgd_sgd : (s.withSgd x).sgd = x := rfl
@[simp] theorem State.withSgd_csq : (s.withSgd x).csq = s.csq := rfl
@[simp] theorem State.withSgd_icu : (s.withSgd x).icu = s.icu := rfl
@[simp] theorem State.withSgd_rll : (s.withSgd x).rll = s.rll := rfl
@[simp] theorem State.withSgd_evr : (s.withSgd x).evr = s.evr := rfl
@[simp] theorem State.withSgd_vlp : (s.withSgd x).vlp = s.vlp := rfl
@[simp] theorem State.withSgd_mode : (s.withSgd x).mode = s.mode := rfl
@[simp] theorem State.withSgd_params : (s.withSgd x).params = s.params := rfl
@[simp] theorem State.withSgd_pending : (s.withSgd x).pending = s.pending := rfl
@[simp] theorem State.withSgd_work : (s.withSgd x).work = s.work := rfl
@[simp] theorem State.withSgd_same : s.withSgd s.sgd = s := rfl
@[simp] theorem State.withSgd_withSgd (y : Sgd) : (s.withSgd x).withSgd y = s.withSgd y := rfl
end withSgd

section withCsq
variable (s : State) (x : Csq)
@[simp] theorem State.withCsq_inp : (s.withCsq x).inp = s.inp := rfl
@[simp] theorem State.withCsq_pos : (s.withCsq x).pos = s.pos := rfl
@[simp] theorem State.withCsq_rmap : (s.withCsq x).rmap = s.rmap := rfl
@[simp] theorem State.withCsq_lcl : (s.withCsq x).lcl = s.lcl := rfl
@[simp] theorem State.withCsq_chans : (s.withCsq x).chans = s.chans := rfl
@[simp] theorem State.withCsq_ftabs : (s.withCsq x).ftabs = s.ftabs := rfl
@[simp] theorem State.withCsq_sgd : (s.withCsq x).sgd = s.sgd := rfl
@[simp] theorem State.withCsq_csq : (s.withCsq x).csq = x := rfl
@[simp] theorem State.withCsq_icu : (s.withCsq x).icu = s.icu := rfl
@[simp] theorem State.withCsq_rll : (s.withCsq x).rll = s.rll := rfl
@[simp] theorem State.withCsq_evr : (s.withCsq x).evr = s.evr := rfl
@[simp] theorem State.withCsq_vlp : (s.withCsq x).vlp = s.vlp := rfl
@[simp] theorem State.withCsq_mode : (s.withCsq x).mode = s.mode := rfl
@[simp] theorem State.withCsq_params : (s.withCsq x).params = s.params := rfl
@[simp] theorem State.withCsq_pending : (s.withCsq x).pending = s.pending := rfl
@[simp] theorem State.withCsq_work : (s.withCsq x).work = s.work := rfl
@[simp] theorem State.withCsq_same : s.withCsq s.csq = s := rfl
@[simp] theorem State.withCsq_withCsq (y : Csq) : (s.withCsq x).withCsq y = s.withCsq y := rfl
end withCsq

section withIcu
variable (s : State) (x : Icu)
@[simp] theorem State.withIcu_inp : (s.withIcu x).inp = s.inp := rfl
@[simp] theorem State.withIcu_pos : (s.withIcu x).pos = s.pos := rfl
@[simp] theorem State.withIcu_rmap : (s.withIcu x).rmap = s.rmap := rfl
@[simp] theorem State.withIcu_lcl : (s.withIcu x).lcl = s.lcl := rfl
@[simp] theorem State.withIcu_chans : (s.withIcu x).chans = s.chans := rfl
@[simp] theorem State.withIcu_ftabs : (s.withIcu x).ftabs = s.ftabs := rfl
@[simp] theorem State.withIcu_sgd : (s.withIcu x).sgd = s.sgd := rfl
@[simp] theorem State.withIcu_csq : (s.withIcu x).csq = s.csq := rfl
@[simp] theorem State.withIcu_icu : (s.withIcu x).icu = x := rfl
@[simp] theorem State.withIcu_rll : (s.withIcu x).rll = s.rll := rfl
@[simp] theorem State.withIcu_evr : (s.withIcu x).evr = s.evr := rfl
@[simp] theorem State.withIcu_vlp : (s.withIcu x).vlp = s.vlp := rfl
@[simp] theorem State.withIcu_mode : (s.withIcu x).mode = s.mode := rfl
@[simp] theorem State.withIcu_params : (s.withIcu x).params = s.params := rfl
@[simp] theorem State.withIcu_pending : (s.withIcu x).pending = s.pending := rfl
@[simp] theorem State.withIcu_work : (s.withIcu x).work = s.work := rfl
@[simp] theorem State.withIcu_same : s.withIcu s.icu = s := rfl
@[simp] theorem State.withIcu_withIcu (y : Icu) : (s.withIcu x).withIcu y = s.withIcu y := rfl
end withIcu

section withRll
variable (s : State) (x : Rll)
@[simp] theorem State.withRll_inp : (s.withRll x).inp = s.inp := rfl
@[simp] theorem State.withRll_pos : (s.withRll x).pos = s.pos := rfl
@[simp] theorem State.withRll_rmap : (s.withRll x).rmap = s.rmap := rfl
@[simp] theorem State.withRll_lcl : (s.withRll x).lcl = s.lcl := rfl
@[simp] theorem State.withRll_chans : (s.withRll x).chans = s.chans := rfl
@[simp] theorem State.withRll_ftabs : (s.withRll x).ftabs = s.ftabs := rfl
@[simp] theorem State.withRll_sgd : (s.withRll x).sgd = s.sgd := rfl
@[simp] theorem State.withRll_csq : (s.withRll x).csq = s.csq := rfl
@[simp] theorem State.withRll_icu : (s.withRll x).icu = s.icu := rfl
@[simp] theorem State.withRll_rll : (s.withRll x).rll = x := rfl
@[simp] theorem State.withRll_evr : (s.withRll x).evr = s.evr := rfl
@[simp] theorem State.withRll_vlp : (s.withRll x).vlp = s.vlp := rfl
@[simp] theorem State.withRll_mode : (s.withRll x).mode = s.mode := rfl
@[simp] theorem State.withRll_params : (s.withRll x).params = s.params := rfl
@[simp] theorem State.withRll_pending : (s.withRll x).pending = s.pending := rfl
@[simp] theorem State.withRll_work : (s.withRll x).work = s.work := rfl
@[simp] theorem State.withRll_same : s.withRll s.rll = s := rfl
@[simp] theorem State.withRll_withRll (y : Rll) : (s.withRll x).withRll y = s.withRll y := rfl
end withRll

section withEvr
variable (s : State) (x : Evr)
@[simp] theorem State.withEvr_inp : (s.withEvr x).inp = s.inp := rfl
@[simp] theorem State.withEvr_pos : (s.withEvr x).pos = s.pos := rfl
@[simp] theorem State.withEvr_rmap : (s.withEvr x).rmap = s.rmap := rfl
@[simp] theorem State.withEvr_lcl : (s.withEvr x).lcl = s.lcl := rfl
@[simp] theorem State.withEvr_chans : (s.withEvr x).chans = s.chans := rfl
@[simp] theorem State.withEvr_ftabs : (s.withEvr x).ftabs = s.ftabs := rfl
@[simp] theorem State.withEvr_sgd : (s.withEvr x).sgd = s.sgd := rfl
@[simp] theorem State.withEvr_csq : (s.withEvr x).csq = s.csq := rfl
@[simp] theorem State.withEvr_icu : (s.withEvr x).icu = s.icu := rfl
@[simp] theorem State.withEvr_rll : (s.withEvr x).rll = s.rll := rfl
@[simp] theorem State.withEvr_evr : (s.withEvr x).evr = x := rfl
@[simp] theorem State.withEvr_vlp : (s.withEvr x).vlp = s.vlp := rfl
@[simp] theorem State.withEvr_mode : (s.withEvr x).mode = s.mode := rfl
@[simp] theorem State.withEvr_params : (s.withEvr x).params = s.params := rfl
@[simp] theorem State.withEvr_pending : (s.withEvr x).pending = s.pending := rfl
@[simp] theorem State.withEvr_work : (s.withEvr x).work = s.work := rfl
@[simp] theorem State.withEvr_same : s.withEvr s.evr = s := rfl
@[simp] theorem State.withEvr_withEvr (y : Evr) : (s.withEvr x).withEvr y = s.withEvr y := rfl
end withEvr

section withVlp
variable (s : State) (x : Vlp)
@[simp] theorem State.withVlp_inp : (s.withVlp x).inp = s.inp := rfl
@[simp] theorem State.withVlp_pos : (s.withVlp x).pos = s.pos := rfl
@[simp] theorem State.withVlp_rmap : (s.withVlp x).rmap = s.rmap := rfl
@[simp] theorem State.withVlp_lcl : (s.withVlp x).lcl = s.lcl := rfl
@[simp] theorem State.withVlp_chans : (s.withVlp x).chans = s.chans := rfl
@[simp] theorem State.withVlp_ftabs : (s.withVlp x).ftabs = s.ftabs := rfl
@[simp] theorem State.withVlp_sgd : (s.withVlp x).sgd = s.sgd := rfl
@[simp] theorem State.withVlp_csq : (s.withVlp x).csq = s.csq := rfl
@[simp] theorem State.withVlp_icu : (s.withVlp x).icu = s.icu := rfl
@[simp] theorem State.withVlp_rll : (s.withVlp x).rll = s.rll := rfl
@[simp] theorem State.withVlp_evr : (s.withVlp x).evr = s.evr := rfl
@[simp] theorem State.withVlp_vlp : (s.withVlp x).vlp = x := rfl
@[simp] theorem State.withVlp_mode : (s.withVlp x).mode = s.mode := rfl
@[simp] theorem State.withVlp_params : (s.withVlp x).params = s.params := rfl
@[simp] theorem State.withVlp_pending : (s.withVlp x).pending = s.pending := rfl
@[simp] theorem State.withVlp_work : (s.withVlp x).work = s.work := rfl
@[simp] theorem State.withVlp_same : s.withVlp s.vlp = s := rfl
@[simp] theorem State.withVlp_withVlp (y : Vlp) : (s.withVlp x).withVlp y = s.withVlp y := rfl
end withVlp

section withMode
variable (s : State) (x : Mode)
@[simp] theorem State.withMode_inp : (s.withMode x).inp = s.inp := rfl
@[simp] theorem State.withMode_pos : (s.withMode x).pos = s.pos := rfl
@[simp] theorem State.withMode_rmap : (s.withMode x).rmap = s.rmap := rfl
@[simp] theorem State.withMode_lcl : (s.withMode x).lcl = s.lcl := rfl
@[simp] theorem State.withMode_chans : (s.withMode x).chans = s.chans := rfl
@[simp] theorem State.withMode_ftabs : (s.withMode x).ftabs = s.ftabs := rfl
@[simp] theorem State.withMode_sgd : (s.withMode x).sgd = s.sgd := rfl
@[simp] theorem State.withMode_csq : (s.withMode x).csq = s.csq := rfl
@[simp] theorem State.withMode_icu : (s.withMode x).icu = s.icu := rfl
@[simp] theorem State.withMode_rll : (s.withMode x).rll = s.rll := rfl
@[simp] theorem State.withMode_evr : (s.withMode x).evr = s.evr := rfl
@[simp] theorem State.withMode_vlp : (s.withMode x).vlp = s.vlp := rfl
@[simp] theorem State.withMode_mode : (s.withMode x).mode = x := rfl
@[simp] theorem State.withMode_params : (s.withMode x).params = s.params := rfl
@[simp] theorem State.withMode_pending : (s.withMode x).pending = s.pending := rfl
@[simp] theorem State.withMode_work : (s.withMode x).work = s.work := rfl
@[simp] theorem State.withMode_same : s.withMode s.mode = s := rfl
@[simp] theorem State.withMode_withMode (y : Mode) : (s.withMode x).withMode y = s.withMode y := rfl
end withMode

section withParams
variable (s : State) (x : Vector Nat 46)
@[simp] theorem State.withParams_inp : (s.withParams x).inp = s.inp := rfl
@[simp] theorem State.withParams_pos : (s.withParams x).pos = s.pos := rfl
@[simp] theorem State.withParams_rmap : (s.withParams x).rmap = s.rmap := rfl
@[simp] theorem State.withParams_lcl : (s.withParams x).lcl = s.lcl := rfl
@[simp] theorem State.withParams_chans : (s.withParams x).chans = s.chans := rfl
@[simp] theorem State.withParams_ftabs : (s.withParams x).ftabs = s.ftabs := rfl
@[simp] theorem State.withParams_sgd : (s.withParams x).sgd = s.sgd := rfl
@[simp] theorem State.withParams_csq : (s.withParams x).csq = s.csq := rfl
@[simp] theorem State.withParams_icu : (s.withParams x).icu = s.icu := rfl
@[simp] theorem State.withParams_rll : (s.withParams x).rll = s.rll := rfl
@[simp] theorem State.withParams_evr : (s.withParams x).evr = s.evr := rfl
@[simp] theorem State.withParams_vlp : (s.withParams x).vlp = s.vlp := rfl
@[simp] theorem State.withParams_mode : (s.withParams x).mode = s.mode := rfl
@[simp] theorem State.withParams_params : (s.withParams x).params = x := rfl
@[simp] theorem State.withParams_pending : (s.withParams x).pending = s.pending := rfl
@[simp] theorem State.withParams_work : (s.withParams x).work = s.work := rfl
@[simp] theorem State.withParams_same : s.withParams s.params = s := rfl
@[simp] theorem State.withParams_withParams (y : Vector Nat 46) : (s.withParams x).withParams y = s.withParams y := rfl
end withParams

section withPending
variable (s : State) (x : List Instr)
@[simp] theorem State.withPending_inp : (s.withPending x).inp = s.inp := rfl
@[simp] theorem State.withPending_pos : (s.withPending x).pos = s.pos := rfl
@[simp] theorem State.withPending_rmap : (s.withPending x).rmap = s.rmap := rfl
@[simp] theorem State.withPending_lcl : (s.withPending x).lcl = s.lcl := rfl
@[simp] theorem State.withPending_chans : (s.withPending x).chans = s.chans := rfl
@[simp] theorem State.withPending_ftabs : (s.withPending x).ftabs = s.ftabs := rfl
@[simp] theorem State.withPending_sgd : (s.withPending x).sgd = s.sgd := rfl
@[simp] theorem State.withPending_csq : (s.withPending x).csq = s.csq := rfl
@[simp] theorem State.withPending_icu : (s.withPending x).icu = s.icu := rfl
@[simp] theorem State.withPending_rll : (s.withPending x).rll = s.rll := rfl
@[simp] theorem State.withPending_evr : (s.withPending x).evr = s.evr := rfl
@[simp] theorem State.withPending_vlp : (s.withPending x).vlp = s.vlp := rfl
@[simp] theorem State.withPending_mode : (s.withPending x).mode = s.mode := rfl
@[simp] theorem State.withPending_params : (s.withPending x).params = s.params := rfl
@[simp] theorem State.withPending_pending : (s.withPending x).pending = x := rfl
@[simp] theorem State.withPending_work : (s.withPending x).work = s.work := rfl
@[simp] theorem State.withPending_same : s.withPending s.pending = s := rfl
@[simp] theorem State.withPending_withPending (y : List Instr) : (s.withPending x).withPending y = s.withPending y := rfl
end withPending

section withWork
variable (s : State) (x : List Signal)
@[simp] theorem State.withWork_inp : (s.withWork x).inp = s.inp := rfl
@[simp] theorem State.withWork_pos : (s.withWork x).pos = s.pos := rfl
@[simp] theorem State.withWork_rmap : (s.withWork x).rmap = s.rmap := rfl
@[simp] theorem State.withWork_lcl : (s.withWork x).lcl = s.lcl := rfl
@[simp] theorem State.withWork_chans : (s.withWork x).chans = s.chans := rfl
@[simp] theorem State.withWork_ftabs : (s.withWork x).ftabs = s.ftabs := rfl
@[simp] theorem State.withWork_sgd : (s.withWork x).sgd = s.sgd := rfl
@[simp] theorem State.withWork_csq : (s.withWork x).csq = s.csq := rfl
@[simp] theorem State.withWork_icu : (s.withWork x).icu = s.icu := rfl
@[simp] theorem State.withWork_rll : (s.withWork x).rll = s.rll := rfl
@[simp] theorem State.withWork_evr : (s.withWork x).evr = s.evr := rfl
@[simp] theorem State.withWork_vlp : (s.withWork x).vlp = s.vlp := rfl
@[simp] theorem State.withWork_mode : (s.withWork x).mode = s.mode := rfl
@[simp] theorem State.withWork_params : (s.withWork x).params = s.params := rfl
@[simp] theorem State.withWork_pending : (s.withWork x).pending = s.pending := rfl
@[simp] theorem State.withWork_work : (s.withWork x).work = x := rfl
@[simp] theorem State.withWork_same : s.withWork s.work = s := rfl
@[simp] theorem State.withWork_withWork (y : List Signal) : (s.withWork x).withWork y = s.withWork y := rfl
end withWork

end Sys2Proof.Machine
end

