-- ==== Sys2Proof/Laws/Ops.lean ====
section
/-! SUPPORT. What the named operations of Machine/Ops.lean change and what they leave: one lemma for each operation and
each part of the state. -/

namespace Sys2Proof.Machine

open Config

/-! ## Channels and actuators -/

section numbered
variable (s : State) (n k : Fin 4) (c : Channel) (a b : Actuator) (r : ActRec)

@[simp] theorem State.setCh_inp : (s.setCh n c).inp = s.inp := rfl
@[simp] theorem State.setCh_pos : (s.setCh n c).pos = s.pos := rfl
@[simp] theorem State.setCh_rmap : (s.setCh n c).rmap = s.rmap := rfl
@[simp] theorem State.setCh_lcl : (s.setCh n c).lcl = s.lcl := rfl
@[simp] theorem State.setCh_ftabs : (s.setCh n c).ftabs = s.ftabs := rfl
@[simp] theorem State.setCh_sgd : (s.setCh n c).sgd = s.sgd := rfl
@[simp] theorem State.setCh_csq : (s.setCh n c).csq = s.csq := rfl
@[simp] theorem State.setCh_icu : (s.setCh n c).icu = s.icu := rfl
@[simp] theorem State.setCh_rll : (s.setCh n c).rll = s.rll := rfl
@[simp] theorem State.setCh_evr : (s.setCh n c).evr = s.evr := rfl
@[simp] theorem State.setCh_vlp : (s.setCh n c).vlp = s.vlp := rfl
@[simp] theorem State.setCh_mode : (s.setCh n c).mode = s.mode := rfl
@[simp] theorem State.setCh_params : (s.setCh n c).params = s.params := rfl
@[simp] theorem State.setCh_pending : (s.setCh n c).pending = s.pending := rfl
@[simp] theorem State.setCh_work : (s.setCh n c).work = s.work := rfl
@[simp] theorem State.setAct_inp : (s.setAct a r).inp = s.inp := rfl
@[simp] theorem State.setAct_pos : (s.setAct a r).pos = s.pos := rfl
@[simp] theorem State.setAct_rmap : (s.setAct a r).rmap = s.rmap := rfl
@[simp] theorem State.setAct_lcl : (s.setAct a r).lcl = s.lcl := rfl
@[simp] theorem State.setAct_chans : (s.setAct a r).chans = s.chans := rfl
@[simp] theorem State.setAct_ftabs : (s.setAct a r).ftabs = s.ftabs := rfl
@[simp] theorem State.setAct_csq : (s.setAct a r).csq = s.csq := rfl
@[simp] theorem State.setAct_icu : (s.setAct a r).icu = s.icu := rfl
@[simp] theorem State.setAct_rll : (s.setAct a r).rll = s.rll := rfl
@[simp] theorem State.setAct_evr : (s.setAct a r).evr = s.evr := rfl
@[simp] theorem State.setAct_vlp : (s.setAct a r).vlp = s.vlp := rfl
@[simp] theorem State.setAct_mode : (s.setAct a r).mode = s.mode := rfl
@[simp] theorem State.setAct_params : (s.setAct a r).params = s.params := rfl
@[simp] theorem State.setAct_pending : (s.setAct a r).pending = s.pending := rfl
@[simp] theorem State.setAct_work : (s.setAct a r).work = s.work := rfl

/-- The channel written reads as written. -/
@[simp] theorem State.setCh_ch_same : (s.setCh n c).ch n = c := by
  show (s.chans.set n.val c n.isLt)[n.val] = c
  simp

/-- Every other channel reads as before. -/
theorem State.setCh_ch_other (h : k ≠ n) : (s.setCh n c).ch k = s.ch k := by
  have h' : n.val ≠ k.val := fun e => h (Fin.ext e.symm)
  show (s.chans.set n.val c n.isLt)[k.val] = s.chans[k.val]
  exact Vector.getElem_set_ne _ _ h'

/-- A channel after a write to channel n. -/
theorem State.setCh_ch : (s.setCh n c).ch k = if k = n then c else s.ch k := by
  by_cases h : k = n
  · subst h; simp
  · simp [State.setCh_ch_other, h]

@[simp] theorem State.setCh_act : (s.setCh n c).act a = s.act a := rfl
@[simp] theorem State.setAct_ch : (s.setAct a r).ch n = s.ch n := rfl

/-- The number tells the actuator. -/
theorem actNo_inj : actNo a = actNo b ↔ a = b := by cases a <;> cases b <;> decide

/-- The actuator written reads as written. -/
@[simp] theorem State.setAct_act_same : (s.setAct a r).act a = r := by
  show (s.sgd.acts.set (actNo a).val r (actNo a).isLt)[(actNo a).val] = r
  simp

/-- Every other actuator reads as before. -/
theorem State.setAct_act_other (h : b ≠ a) : (s.setAct a r).act b = s.act b := by
  have h' : (actNo a).val ≠ (actNo b).val := fun e => h ((actNo_inj _ _).1 (Fin.ext e)).symm
  show (s.sgd.acts.set (actNo a).val r (actNo a).isLt)[(actNo b).val] = s.sgd.acts[(actNo b).val]
  exact Vector.getElem_set_ne _ _ h'

/-- An actuator after a write to actuator a. -/
theorem State.setAct_act : (s.setAct a r).act b = if b = a then r else s.act b := by
  by_cases h : b = a
  · subst h; simp
  · simp [State.setAct_act_other, h]

@[simp] theorem State.setAct_guardKa : (s.setAct a r).sgd.guardKa = s.sgd.guardKa := rfl
@[simp] theorem State.setAct_guardKd : (s.setAct a r).sgd.guardKd = s.sgd.guardKd := rfl
@[simp] theorem State.setAct_proc : (s.setAct a r).sgd.proc = s.sgd.proc := rfl
@[simp] theorem State.setAct_isoWait : (s.setAct a r).sgd.isoWait = s.sgd.isoWait := rfl
@[simp] theorem State.setAct_reasons : (s.setAct a r).sgd.reasons = s.sgd.reasons := rfl
@[simp] theorem State.setAct_armed : (s.setAct a r).sgd.armed = s.sgd.armed := rfl
@[simp] theorem State.setAct_selected : (s.setAct a r).sgd.selected = s.sgd.selected := rfl

end numbered

/-! ## Handing on -/

section handing
variable (gs : List Signal) (s : State)

@[simp] theorem emit_inp : (emit gs s).inp = s.inp := rfl
@[simp] theorem emit_pos : (emit gs s).pos = s.pos := rfl
@[simp] theorem emit_rmap : (emit gs s).rmap = s.rmap := rfl
@[simp] theorem emit_lcl : (emit gs s).lcl = s.lcl := rfl
@[simp] theorem emit_chans : (emit gs s).chans = s.chans := rfl
@[simp] theorem emit_ftabs : (emit gs s).ftabs = s.ftabs := rfl
@[simp] theorem emit_sgd : (emit gs s).sgd = s.sgd := rfl
@[simp] theorem emit_csq : (emit gs s).csq = s.csq := rfl
@[simp] theorem emit_icu : (emit gs s).icu = s.icu := rfl
@[simp] theorem emit_rll : (emit gs s).rll = s.rll := rfl
@[simp] theorem emit_evr : (emit gs s).evr = s.evr := rfl
@[simp] theorem emit_vlp : (emit gs s).vlp = s.vlp := rfl
@[simp] theorem emit_mode : (emit gs s).mode = s.mode := rfl
@[simp] theorem emit_params : (emit gs s).params = s.params := rfl
@[simp] theorem emit_pending : (emit gs s).pending = s.pending := rfl
@[simp] theorem emit_work : (emit gs s).work = s.work ++ gs := rfl
@[simp] theorem emit_ch (n : Fin 4) : (emit gs s).ch n = s.ch n := rfl
@[simp] theorem emit_act (a : Actuator) : (emit gs s).act a = s.act a := rfl

end handing

/-! ## Notices and answers -/

section notices
variable (e : Event) (s : State) (kind tag : Byte) (a : Answer)

@[simp] theorem handOver_inp : (handOver s).inp = s.inp := by unfold handOver; split <;> rfl
@[simp] theorem handOver_pos : (handOver s).pos = s.pos := by unfold handOver; split <;> rfl
@[simp] theorem handOver_rmap : (handOver s).rmap = s.rmap := by unfold handOver; split <;> rfl
@[simp] theorem handOver_lcl : (handOver s).lcl = s.lcl := by unfold handOver; split <;> rfl
@[simp] theorem handOver_chans : (handOver s).chans = s.chans := by unfold handOver; split <;> rfl
@[simp] theorem handOver_ftabs : (handOver s).ftabs = s.ftabs := by unfold handOver; split <;> rfl
@[simp] theorem handOver_sgd : (handOver s).sgd = s.sgd := by unfold handOver; split <;> rfl
@[simp] theorem handOver_csq : (handOver s).csq = s.csq := by unfold handOver; split <;> rfl
@[simp] theorem handOver_icu : (handOver s).icu = s.icu := by unfold handOver; split <;> rfl
@[simp] theorem handOver_rll : (handOver s).rll = s.rll := by unfold handOver; split <;> rfl
@[simp] theorem handOver_mode : (handOver s).mode = s.mode := by unfold handOver; split <;> rfl
@[simp] theorem handOver_params : (handOver s).params = s.params := by unfold handOver; split <;> rfl
@[simp] theorem handOver_pending : (handOver s).pending = s.pending := by unfold handOver; split <;> rfl
@[simp] theorem handOver_work : (handOver s).work = s.work := by unfold handOver; split <;> rfl
@[simp] theorem handOver_ch (n : Fin 4) : (handOver s).ch n = s.ch n := by simp [State.ch]
@[simp] theorem handOver_act (x : Actuator) : (handOver s).act x = s.act x := by simp [State.act]

@[simp] theorem raise_inp : (raise e s).inp = s.inp := by unfold raise; dsimp only; split <;> split <;> simp
@[simp] theorem raise_pos : (raise e s).pos = s.pos := by unfold raise; dsimp only; split <;> split <;> simp
@[simp] theorem raise_rmap : (raise e s).rmap = s.rmap := by unfold raise; dsimp only; split <;> split <;> simp
@[simp] theorem raise_lcl : (raise e s).lcl = s.lcl := by unfold raise; dsimp only; split <;> split <;> simp
@[simp] theorem raise_chans : (raise e s).chans = s.chans := by unfold raise; dsimp only; split <;> split <;> simp
@[simp] theorem raise_ftabs : (raise e s).ftabs = s.ftabs := by unfold raise; dsimp only; split <;> split <;> simp
@[simp] theorem raise_sgd : (raise e s).sgd = s.sgd := by unfold raise; dsimp only; split <;> split <;> simp
@[simp] theorem raise_csq : (raise e s).csq = s.csq := by unfold raise; dsimp only; split <;> split <;> simp
@[simp] theorem raise_icu : (raise e s).icu = s.icu := by unfold raise; dsimp only; split <;> split <;> simp
@[simp] theorem raise_rll : (raise e s).rll = s.rll := by unfold raise; dsimp only; split <;> split <;> simp
@[simp] theorem raise_mode : (raise e s).mode = s.mode := by unfold raise; dsimp only; split <;> split <;> simp
@[simp] theorem raise_params : (raise e s).params = s.params := by unfold raise; dsimp only; split <;> split <;> simp
@[simp] theorem raise_pending : (raise e s).pending = s.pending := by unfold raise; dsimp only; split <;> split <;> simp
@[simp] theorem raise_work : (raise e s).work = s.work := by unfold raise; dsimp only; split <;> split <;> simp
@[simp] theorem raise_ch (n : Fin 4) : (raise e s).ch n = s.ch n := by simp [State.ch]
@[simp] theorem raise_act (x : Actuator) : (raise e s).act x = s.act x := by simp [State.act]

@[simp] theorem chooseNext_inp : (chooseNext s).inp = s.inp := by unfold chooseNext; split <;> simp
@[simp] theorem chooseNext_pos : (chooseNext s).pos = s.pos := by unfold chooseNext; split <;> simp
@[simp] theorem chooseNext_rmap : (chooseNext s).rmap = s.rmap := by unfold chooseNext; split <;> simp
@[simp] theorem chooseNext_lcl : (chooseNext s).lcl = s.lcl := by unfold chooseNext; split <;> simp
@[simp] theorem chooseNext_chans : (chooseNext s).chans = s.chans := by unfold chooseNext; split <;> simp
@[simp] theorem chooseNext_ftabs : (chooseNext s).ftabs = s.ftabs := by unfold chooseNext; split <;> simp
@[simp] theorem chooseNext_sgd : (chooseNext s).sgd = s.sgd := by unfold chooseNext; split <;> simp
@[simp] theorem chooseNext_csq : (chooseNext s).csq = s.csq := by unfold chooseNext; split <;> simp
@[simp] theorem chooseNext_icu : (chooseNext s).icu = s.icu := by unfold chooseNext; split <;> simp
@[simp] theorem chooseNext_rll : (chooseNext s).rll = s.rll := by unfold chooseNext; split <;> simp
@[simp] theorem chooseNext_mode : (chooseNext s).mode = s.mode := by unfold chooseNext; split <;> simp
@[simp] theorem chooseNext_params : (chooseNext s).params = s.params := by unfold chooseNext; split <;> simp
@[simp] theorem chooseNext_pending : (chooseNext s).pending = s.pending := by unfold chooseNext; split <;> simp
@[simp] theorem chooseNext_work : (chooseNext s).work = s.work := by unfold chooseNext; split <;> simp
@[simp] theorem chooseNext_ch (n : Fin 4) : (chooseNext s).ch n = s.ch n := by simp [State.ch]
@[simp] theorem chooseNext_act (x : Actuator) : (chooseNext s).act x = s.act x := by simp [State.act]

@[simp] theorem makeAnswer_inp : (makeAnswer kind tag a s).inp = s.inp := by unfold makeAnswer; dsimp only; split <;> simp
@[simp] theorem makeAnswer_pos : (makeAnswer kind tag a s).pos = s.pos := by unfold makeAnswer; dsimp only; split <;> simp
@[simp] theorem makeAnswer_rmap : (makeAnswer kind tag a s).rmap = s.rmap := by unfold makeAnswer; dsimp only; split <;> simp
@[simp] theorem makeAnswer_lcl : (makeAnswer kind tag a s).lcl = s.lcl := by unfold makeAnswer; dsimp only; split <;> simp
@[simp] theorem makeAnswer_chans : (makeAnswer kind tag a s).chans = s.chans := by unfold makeAnswer; dsimp only; split <;> simp
@[simp] theorem makeAnswer_ftabs : (makeAnswer kind tag a s).ftabs = s.ftabs := by unfold makeAnswer; dsimp only; split <;> simp
@[simp] theorem makeAnswer_sgd : (makeAnswer kind tag a s).sgd = s.sgd := by unfold makeAnswer; dsimp only; split <;> simp
@[simp] theorem makeAnswer_csq : (makeAnswer kind tag a s).csq = s.csq := by unfold makeAnswer; dsimp only; split <;> simp
@[simp] theorem makeAnswer_icu : (makeAnswer kind tag a s).icu = s.icu := by unfold makeAnswer; dsimp only; split <;> simp
@[simp] theorem makeAnswer_rll : (makeAnswer kind tag a s).rll = s.rll := by unfold makeAnswer; dsimp only; split <;> simp
@[simp] theorem makeAnswer_mode : (makeAnswer kind tag a s).mode = s.mode := by unfold makeAnswer; dsimp only; split <;> simp
@[simp] theorem makeAnswer_params : (makeAnswer kind tag a s).params = s.params := by unfold makeAnswer; dsimp only; split <;> simp
@[simp] theorem makeAnswer_pending : (makeAnswer kind tag a s).pending = s.pending := by unfold makeAnswer; dsimp only; split <;> simp
@[simp] theorem makeAnswer_work : (makeAnswer kind tag a s).work = s.work := by unfold makeAnswer; dsimp only; split <;> simp
@[simp] theorem makeAnswer_ch (n : Fin 4) : (makeAnswer kind tag a s).ch n = s.ch n := by simp [State.ch]
@[simp] theorem makeAnswer_act (x : Actuator) : (makeAnswer kind tag a s).act x = s.act x := by simp [State.act]

/-- The transmitter takes no notice: it sends a frame, a command is carried out, or a warm reset is pending (R192, R195). -/
def State.noHandOver (s : State) : Bool := s.vlp.tx.isSome || s.vlp.carrying || s.vlp.resetPending

/-- An event raised while no notice may be handed over leaves the Vehicle Link Port as it is. -/
theorem raise_vlp (h : s.noHandOver = true) : (raise e s).vlp = s.vlp := by
  have h1 : ∀ v : Evr, ((s.withEvr v).vlp.tx.isNone && !(s.withEvr v).vlp.carrying && !(s.withEvr v).vlp.resetPending) = false := by
    intro v
    show (s.vlp.tx.isNone && !s.vlp.carrying && !s.vlp.resetPending) = false
    unfold State.noHandOver at h
    revert h
    cases s.vlp.tx <;> cases s.vlp.carrying <;> cases s.vlp.resetPending <;> simp
  have h2 : (s.vlp.tx.isNone && !s.vlp.carrying && !s.vlp.resetPending) = false := h1 s.evr
  unfold raise; dsimp only
  split
  · rw [h1]; simp
  · rw [h2]; simp

end notices

/-- R144, R147: after a refresh the budget and the grant set are those of the state as it then stands. -/
theorem refresh_heating (s : State) :
    (refresh s).icu.budget = (refresh s).budgetNow ∧
    (refresh s).icu.grant = admission (refresh s).rating (refresh s).icu.budget (refresh s).icu.list := by
  have h : ∀ t : State, (refreshHeat t).icu.budget = t.budgetNow ∧
      (refreshHeat t).icu.grant = admission t.rating t.budgetNow t.icu.list ∧ (refreshHeat t).icu.list = t.icu.list ∧
      (refreshHeat t).budgetNow = t.budgetNow ∧ (refreshHeat t).rating = t.rating := by
    intro t
    refine ⟨?_, ?_, ?_, ?_, ?_⟩ <;> unfold refreshHeat <;> dsimp only <;> split <;>
      simp [State.budgetNow, State.act, State.par, State.rating, funext_iff]
  obtain ⟨h1, h2, h3, h4, h5⟩ := h (refreshReasons (refreshSelected s))
  exact ⟨by unfold refresh; rw [h1, h4], by unfold refresh; rw [h2, h1, h3, h5]⟩

/-- R183: a replacement leaves the number of queued notices as it is. -/
theorem replaceNewest_length (n : Notice) : ∀ (l m : List Notice), replaceNewest n l = some m → m.length = l.length
  | [], _, h => by simp [replaceNewest] at h
  | x :: rest, m, h => by
    unfold replaceNewest at h
    split at h
    · rename_i r hr; cases h; simp [replaceNewest_length n rest r hr]
    · split at h
      · cases h; rfl
      · cases h

/-- R182, R183: a queue within its places stays within them. -/
theorem Evr.enqueue_length (v : Evr) (n : Notice) (h : v.queue.length ≤ queuePlaces) :
    (v.enqueue n).queue.length ≤ queuePlaces := by
  unfold Evr.enqueue
  split
  · simp only [List.length_append, List.length_singleton]; omega
  · split
    · rename_i q hq; simpa [replaceNewest_length n _ _ hq] using h
    · exact h

end Sys2Proof.Machine
end

