-- ==== Sys2Proof/Laws/Frames.lean ====
section
/-! SUPPORT. What no hand-off between blocks changes: the input levels, the position, the classifier, the force tables, the
mode, the parameters and the queue of waiting commands; and, while no notice may be handed over, the Vehicle Link Port.
One lemma for each shared operation, up to `settle`. -/

namespace Sys2Proof.Machine

/-- What every hand-off keeps from s to t. -/
structure Keeps (s t : State) : Prop where
  inp : t.inp = s.inp
  pos : t.pos = s.pos
  lcl : t.lcl = s.lcl
  ftabs : t.ftabs = s.ftabs
  mode : t.mode = s.mode
  params : t.params = s.params
  pending : t.pending = s.pending
  vlp : s.noHandOver = true → t.vlp = s.vlp

theorem Keeps.refl (s : State) : Keeps s s := ⟨rfl, rfl, rfl, rfl, rfl, rfl, rfl, fun _ => rfl⟩

/-- Whether a notice may be handed over rests on the Vehicle Link Port alone. -/
theorem noHandOver_congr {s t : State} (h : t.vlp = s.vlp) : t.noHandOver = s.noHandOver := by simp [State.noHandOver, h]

theorem Keeps.trans {s t u : State} (a : Keeps s t) (b : Keeps t u) : Keeps s u :=
  ⟨b.inp.trans a.inp, b.pos.trans a.pos, b.lcl.trans a.lcl, b.ftabs.trans a.ftabs, b.mode.trans a.mode,
   b.params.trans a.params, b.pending.trans a.pending,
   fun h => (b.vlp ((noHandOver_congr (a.vlp h)).trans h)).trans (a.vlp h)⟩

variable {s t u : State}

@[simp] theorem keeps_ite {c : Prop} [Decidable c] (ha : Keeps s t) (hb : Keeps s u) : Keeps s (if c then t else u) := by
  split <;> assumption

/-- A conditional on a pair of a state and a report. -/
@[simp] theorem keeps_ite_fst {α : Type} {c : Prop} [Decidable c] {x y : State × α} (ha : Keeps s x.1) (hb : Keeps s y.1) :
    Keeps s (if c then x else y).1 := by split <;> assumption

/-- A fold of steps that each keep. -/
theorem keeps_foldl {α : Type} (f : State → α → State) (hf : ∀ t x, Keeps s t → Keeps s (f t x)) :
    ∀ (l : List α) (t : State), Keeps s t → Keeps s (l.foldl f t)
  | [], _, h => h
  | x :: l, t, h => keeps_foldl f hf l (f t x) (hf t x h)

/-- A fold of steps that each keep, for simp. -/
@[simp] theorem keeps_foldl_simp {α : Type} (f : State → α → State) (l : List α) (h : Keeps s t)
    (hf : ∀ t x, Keeps s t → Keeps s (f t x)) : Keeps s (l.foldl f t) := keeps_foldl f hf l t h

/-! ## Updates and notices -/

@[simp] theorem keeps_emit (g : List Signal) (h : Keeps s t) : Keeps s (emit g t) :=
  h.trans ⟨rfl, rfl, rfl, rfl, rfl, rfl, rfl, fun _ => rfl⟩
@[simp] theorem keeps_raise (e : Event) (h : Keeps s t) : Keeps s (raise e t) :=
  h.trans ⟨by simp, by simp, by simp, by simp, by simp, by simp, by simp, raise_vlp e t⟩
@[simp] theorem keeps_withRmap (x : Rmap) (h : Keeps s t) : Keeps s (t.withRmap x) :=
  h.trans ⟨rfl, rfl, rfl, rfl, rfl, rfl, rfl, fun _ => rfl⟩
@[simp] theorem keeps_withChans (x : Vector Channel 4) (h : Keeps s t) : Keeps s (t.withChans x) :=
  h.trans ⟨rfl, rfl, rfl, rfl, rfl, rfl, rfl, fun _ => rfl⟩
@[simp] theorem keeps_withSgd (x : Sgd) (h : Keeps s t) : Keeps s (t.withSgd x) :=
  h.trans ⟨rfl, rfl, rfl, rfl, rfl, rfl, rfl, fun _ => rfl⟩
@[simp] theorem keeps_withCsq (x : Csq) (h : Keeps s t) : Keeps s (t.withCsq x) :=
  h.trans ⟨rfl, rfl, rfl, rfl, rfl, rfl, rfl, fun _ => rfl⟩
@[simp] theorem keeps_withIcu (x : Icu) (h : Keeps s t) : Keeps s (t.withIcu x) :=
  h.trans ⟨rfl, rfl, rfl, rfl, rfl, rfl, rfl, fun _ => rfl⟩
@[simp] theorem keeps_withRll (x : Rll) (h : Keeps s t) : Keeps s (t.withRll x) :=
  h.trans ⟨rfl, rfl, rfl, rfl, rfl, rfl, rfl, fun _ => rfl⟩
@[simp] theorem keeps_withEvr (x : Evr) (h : Keeps s t) : Keeps s (t.withEvr x) :=
  h.trans ⟨rfl, rfl, rfl, rfl, rfl, rfl, rfl, fun _ => rfl⟩
@[simp] theorem keeps_withWork (x : List Signal) (h : Keeps s t) : Keeps s (t.withWork x) :=
  h.trans ⟨rfl, rfl, rfl, rfl, rfl, rfl, rfl, fun _ => rfl⟩
@[simp] theorem keeps_setCh (n : Fin 4) (c : Channel) (h : Keeps s t) : Keeps s (t.setCh n c) :=
  h.trans ⟨rfl, rfl, rfl, rfl, rfl, rfl, rfl, fun _ => rfl⟩
@[simp] theorem keeps_setAct (a : Actuator) (r : ActRec) (h : Keeps s t) : Keeps s (t.setAct a r) :=
  h.trans ⟨rfl, rfl, rfl, rfl, rfl, rfl, rfl, fun _ => rfl⟩

/-! ## Switchgear Drive -/

@[simp] theorem keeps_startGuard (a : Actuator) (h : Keeps s t) : Keeps s (startGuard a t) := by
  unfold startGuard; split <;> simp [h]
@[simp] theorem keeps_setConfirmed (a : Actuator) (c : Confirmed) (h : Keeps s t) : Keeps s (setConfirmed a c t) := by
  simp (maxDischargeDepth := 30) [setConfirmed, h]
@[simp] theorem keeps_confirmMotion (a : Actuator) (h : Keeps s t) : Keeps s (confirmMotion a t) := by
  simp (maxDischargeDepth := 30) [confirmMotion, h]
@[simp] theorem keeps_command (a : Actuator) (p : Place) (h : Keeps s t) : Keeps s (command a p t) := by
  simp (maxDischargeDepth := 30) [command, h]
@[simp] theorem keeps_faultAct (a : Actuator) (k : FaultKind) (h : Keeps s t) : Keeps s (faultAct a k t) := by
  simp (maxDischargeDepth := 30) [faultAct, h]
@[simp] theorem keeps_setPending (a : Actuator) (q : Option (Place × Requester)) (h : Keeps s t) :
    Keeps s (setPending a q t) := by simp [setPending, h]
@[simp] theorem keeps_request (a : Actuator) (p : Place) (b : Requester) (h : Keeps s t) :
    Keeps s (request a p b t).1 := by
  unfold request; dsimp only; (repeat' split) <;> simp (maxDischargeDepth := 30) [h]
@[simp] theorem keeps_issuePending (a : Actuator) (h : Keeps s t) : Keeps s (issuePending a t) := by
  unfold issuePending; split <;> simp (maxDischargeDepth := 30) [h]
@[simp] theorem keeps_closeMb (b : Requester) (h : Keeps s t) : Keeps s (closeMb b t).1 := by
  unfold closeMb; dsimp only; (repeat' split) <;> simp (maxDischargeDepth := 30) [h]
@[simp] theorem keeps_updateReasons (f : Reasons → Reasons) (h : Keeps s t) : Keeps s (updateReasons f t) := by
  simp (maxDischargeDepth := 30) [updateReasons, h]
@[simp] theorem keeps_refreshSelected (h : Keeps s t) : Keeps s (refreshSelected t) := by
  simp (maxDischargeDepth := 30) [refreshSelected, h]
@[simp] theorem keeps_refreshReasons (h : Keeps s t) : Keeps s (refreshReasons t) := by simp [refreshReasons, h]
@[simp] theorem keeps_refreshHeat (h : Keeps s t) : Keeps s (refreshHeat t) := by
  simp (maxDischargeDepth := 30) [refreshHeat, h]
@[simp] theorem keeps_refresh (h : Keeps s t) : Keeps s (refresh t) := by
  simp (maxDischargeDepth := 30) [refresh, h]

/-! ## Pantograph Channels -/

@[simp] theorem keeps_setSetpoint (n : Fin 4) (h : Keeps s t) : Keeps s (setSetpoint n t) := by simp [setSetpoint, h]
@[simp] theorem keeps_recomputeSetpoints (p : Fin 4 → Bool) (h : Keeps s t) : Keeps s (recomputeSetpoints p t) :=
  keeps_foldl _ (fun _ _ h => keeps_ite (keeps_setSetpoint _ h) h) _ _ h
@[simp] theorem keeps_chEnter (n : Fin 4) (c : Channel) (x : Cause) (h : Keeps s t) : Keeps s (chEnter n c x t) := by
  simp (maxDischargeDepth := 30) [chEnter, h]
@[simp] theorem keeps_enterUp (n : Fin 4) (h : Keeps s t) : Keeps s (enterUp n t) := by simp [enterUp, h]
@[simp] theorem keeps_enterRising (n : Fin 4) (h : Keeps s t) : Keeps s (enterRising n t) := by
  simp (maxDischargeDepth := 30) [enterRising, h]
@[simp] theorem keeps_startRaise (n : Fin 4) (r : Role) (h : Keeps s t) : Keeps s (startRaise n r t) := by
  simp (maxDischargeDepth := 30) [startRaise, h]
@[simp] theorem keeps_startFall (n : Fin 4) (x : Cause) (h : Keeps s t) : Keeps s (startFall n x t) := by
  simp [startFall, h]
@[simp] theorem keeps_lowerRaised (n : Fin 4) (x : Cause) (h : Keeps s t) : Keeps s (lowerRaised n x t) := by
  simp [lowerRaised, h]
@[simp] theorem keeps_reachDown (n : Fin 4) (h : Keeps s t) : Keeps s (reachDown n t) := by
  simp (maxDischargeDepth := 30) [reachDown, h]
@[simp] theorem keeps_reachStuck (n : Fin 4) (h : Keeps s t) : Keeps s (reachStuck n t) := by simp [reachStuck, h]
@[simp] theorem keeps_protect (n : Fin 4) (x : Cause) (f p : Bool) (h : Keeps s t) : Keeps s (protect n x f p t) := by
  simp (maxDischargeDepth := 30) [protect, h]
@[simp] theorem keeps_protectRaised (n : Fin 4) (x : Cause) (h : Keeps s t) : Keeps s (protectRaised n x t) := by
  simp [protectRaised, h]
@[simp] theorem keeps_stripBreach (n : Fin 4) (h : Keeps s t) : Keeps s (stripBreach n t) := by simp [stripBreach, h]
@[simp] theorem keeps_emergLower (n : Fin 4) (h : Keeps s t) : Keeps s (emergLower n t) := by simp [emergLower, h]
@[simp] theorem keeps_breakerFailLowering (h : Keeps s t) : Keeps s (breakerFailLowering t) :=
  keeps_foldl _ (fun _ _ h => keeps_ite h (keeps_protectRaised _ _ h)) _ _ h
@[simp] theorem keeps_earthLowering (h : Keeps s t) : Keeps s (earthLowering t) :=
  keeps_foldl _ (fun _ _ h => keeps_protectRaised _ _ h) _ _ h
@[simp] theorem keeps_zoneLowering (h : Keeps s t) : Keeps s (zoneLowering t) :=
  keeps_foldl _ (fun _ _ h => keeps_lowerRaised _ _ h) _ _ h
@[simp] theorem keeps_arcEvaluate (n : Fin 4) (h : Keeps s t) : Keeps s (arcEvaluate n t) := by
  simp (maxDischargeDepth := 30) [arcEvaluate, h]
@[simp] theorem keeps_arcEvaluateAll (h : Keeps s t) : Keeps s (arcEvaluateAll t) :=
  keeps_foldl _ (fun _ _ h => keeps_ite h (keeps_arcEvaluate _ h)) _ _ h
@[simp] theorem keeps_isoClose (n : Fin 4) (h : Keeps s t) : Keeps s (isoClose n t) := by
  have k := keeps_request (isoOf n) .closed .channel h
  unfold isoClose
  split
  · simp [h]
  · split <;> rename_i e <;> rw [e] at k <;> simp_all
@[simp] theorem keeps_isoOnChannel (n : Fin 4) (a b : ChState) (h : Keeps s t) : Keeps s (isoOnChannel n a b t) := by
  simp (maxDischargeDepth := 30) [isoOnChannel, h]
@[simp] theorem keeps_isoRelease (h : Keeps s t) : Keeps s (isoRelease t) := by
  unfold isoRelease; split <;> simp (maxDischargeDepth := 30) [h]

/-! ## Route Map -/

@[simp] theorem keeps_barSpan (k : Nat) (h : Keeps s t) : Keeps s (barSpan k t) := by
  simp (maxDischargeDepth := 30) [barSpan, h]
@[simp] theorem keeps_dropZone (k : Nat) (h : Keeps s t) : Keeps s (dropZone k t) := by
  simp (maxDischargeDepth := 30) [dropZone, h]
@[simp] theorem keeps_applyFailures (x y : List Nat) (h : Keeps s t) : Keeps s (applyFailures x y t) :=
  keeps_foldl _ (fun _ _ h => keeps_dropZone _ h) _ _ (keeps_foldl _ (fun _ _ h => keeps_barSpan _ h) _ _ h)
@[simp] theorem keeps_markUsed (x : Option ProbeHit) (h : Keeps s t) : Keeps s (markUsed x t) := by
  unfold markUsed; split <;> simp [h]
@[simp] theorem keeps_probe (p : Int) (h : Keeps s t) : Keeps s (probe p t).1 := by
  unfold probe; split <;> simp (maxDischargeDepth := 30) [h]
@[simp] theorem keeps_offerGap (w : WatchGap) (h : Keeps s t) : Keeps s (offerGap w t).1 := by
  unfold offerGap; (repeat' split) <;> simp [h]
@[simp] theorem keeps_offerHit (x : Option ProbeHit) (h : Keeps s t) : Keeps s (offerHit x t).1 := by
  unfold offerHit; split <;> simp [h]
@[simp] theorem keeps_removePassed (h : Keeps s t) : Keeps s (removePassed t) := by
  simp (maxDischargeDepth := 30) [removePassed, h]
@[simp] theorem keeps_probeCurrent (h : Keeps s t) : Keeps s (probeCurrent t) := by
  unfold probeCurrent; dsimp only
  split
  · simp (maxDischargeDepth := 30) [h]
  · split <;> simp (maxDischargeDepth := 30) [h]
@[simp] theorem keeps_setShort (p : Int) (f : Bool) (h : Keeps s t) : Keeps s (setShort p f t) := by
  simp (maxDischargeDepth := 30) [setShort, h]
@[simp] theorem keeps_probeAhead (h : Keeps s t) : Keeps s (probeAhead t) := by
  unfold probeAhead; dsimp only
  split
  · simp (maxDischargeDepth := 30) [h]
  · rename_i x hx
    have k := keeps_offerHit (some x)
      (keeps_withRmap { (probe t.aheadPoint t).1.rmap with ahead := { point := t.aheadPoint, hit := (probe t.aheadPoint t).2 } }
        (keeps_probe t.aheadPoint h))
    split <;> rename_i e <;> rw [e] at k <;> simp_all (maxDischargeDepth := 30)
@[simp] theorem keeps_mapMoved (h : Keeps s t) : Keeps s (mapMoved t) := by
  simp (maxDischargeDepth := 30) [mapMoved, h]

/-- One point of a sweep. -/
theorem keeps_sweepPoint (p : Int) (w : Sweep) (h : Keeps s w.st) : Keeps s (sweepPoint p w).1.st := by
  have k0 := keeps_probe p h
  unfold sweepPoint; dsimp only
  split
  · exact k0
  · rename_i x hx
    have k := keeps_offerHit (some x) k0
    split <;> rename_i e <;> rw [e] at k <;> exact k

theorem keeps_sweepGranule (d : Dir) (g lo hi : Int) (w : Sweep) (h : Keeps s w.st) :
    Keeps s (sweepGranule d g lo hi w).st := by
  have k (p : Int) := keeps_sweepPoint p w h
  unfold sweepGranule; dsimp only
  split
  · exact k _
  · split
    · exact keeps_sweepPoint _ _ (k _)
    · exact k _

theorem keeps_sweepGranules (d : Dir) (lo hi : Int) :
    ∀ (l : List Int) (w : Sweep), Keeps s w.st → Keeps s (sweepGranules d lo hi l w).st
  | [], _, h => h
  | g :: l, w, h => keeps_sweepGranules d lo hi l _ (keeps_sweepGranule d g lo hi w h)

@[simp] theorem keeps_sweep (h : Keeps s t) : Keeps s (sweep t) := by
  unfold sweep; dsimp only
  apply keeps_emit
  split
  · exact keeps_raise _ (keeps_withRmap _ (keeps_withRmap _ (keeps_sweepPoint _ _ (keeps_sweepGranules _ _ _ _ _ (keeps_withRmap _ h)))))
  · exact keeps_withRmap _ (keeps_withRmap _ (keeps_sweepPoint _ _ (keeps_sweepGranules _ _ _ _ _ (keeps_withRmap _ h))))
@[simp] theorem keeps_mapRound (h : Keeps s t) : Keeps s (mapRound t) := by
  simp (maxDischargeDepth := 30) [mapRound, h]
@[simp] theorem keeps_rangeProbes (h : Keeps s t) : Keeps s (rangeProbes t) := by
  simp (maxDischargeDepth := 30) [rangeProbes, h]

/-! ## Path change procedure -/

@[simp] theorem keeps_procRequest (x : Option System) (c : Caller) (h : Keeps s t) : Keeps s (procRequest x c t).1 := by
  unfold procRequest; (repeat' split) <;> simp (maxDischargeDepth := 30) [h]
@[simp] theorem keeps_procFail (a : Actuator) (h : Keeps s t) : Keeps s (procFail a t) := by
  unfold procFail; split <;> simp (maxDischargeDepth := 30) [h]
@[simp] theorem keeps_procComplete (p : Proc) (h : Keeps s t) : Keeps s (procComplete p t) := by
  simp (maxDischargeDepth := 30) [procComplete, h]
@[simp] theorem keeps_procStep (p : Proc) (x : ProcStep) (h : Keeps s t) : Keeps s (procStep p x t) := by
  simp (maxDischargeDepth := 30) [procStep, h]
@[simp] theorem keeps_procCommands (p : Proc) (a : Actuator) (h : Keeps s t) : Keeps s (procCommands p a t) := by
  unfold procCommands; split <;> simp [h]
@[simp] theorem keeps_openPath (p : Proc) (h : Keeps s t) : Keeps s (openPath p t) :=
  keeps_ite (keeps_ite (keeps_procComplete p h) (keeps_procStep p _ h))
    (keeps_foldl _ (fun _ _ h => keeps_request _ _ _ h) _ _ h)
@[simp] theorem keeps_setTap (p : Proc) (x : System) (h : Keeps s t) : Keeps s (setTap p x t) := by
  have k := keeps_request (switchOf x.path) x.tap .procedure (keeps_procCommands p (switchOf x.path) h)
  unfold setTap; dsimp only
  split
  · exact keeps_procStep p _ h
  · split <;> rename_i e <;> rw [e] at k <;> first | exact keeps_procFail _ k | exact k
@[simp] theorem keeps_closePath (p : Proc) (x : System) (h : Keeps s t) : Keeps s (closePath p x t) :=
  keeps_ite (keeps_procFail _ h) (keeps_ite (keeps_procComplete p h) (keeps_ite h (keeps_request _ _ _ (keeps_procCommands p _ h))))
@[simp] theorem keeps_procRun (h : Keeps s t) : Keeps s (procRun t) := by
  unfold procRun
  split
  · exact h
  · rename_i p _
    split
    · exact keeps_openPath p h
    · exact keeps_procComplete p h
    · split
      · exact keeps_procFail _ h
      · split
        · exact keeps_setTap p _ h
        · exact keeps_closePath p _ h
        · exact keeps_ite h (keeps_procStep p _ h)
@[simp] theorem keeps_procOnFault (a : Actuator) (h : Keeps s t) : Keeps s (procOnFault a t) := by
  unfold procOnFault; split <;> simp [h]

/-! ## Changeover Sequencer -/

@[simp] theorem keeps_farSideFit (g : GapPart) (h : Keeps s t) : Keeps s (farSideFit g t).1 := by simp [farSideFit, h]
@[simp] theorem keeps_setStage (x : Stage) (h : Keeps s t) : Keeps s (setStage x t) := by simp [setStage, h]
@[simp] theorem keeps_beginLowering (p : Plan) (h : Keeps s t) : Keeps s (beginLowering p t) := by
  unfold beginLowering; dsimp only
  (repeat' split) <;> simp (maxDischargeDepth := 30) [h]
@[simp] theorem keeps_askSwitch (p : Plan) (h : Keeps s t) : Keeps s (askSwitch p t) := by
  have k := keeps_procRequest (some p.target) .sequencer h
  unfold askSwitch; dsimp only
  split <;> rename_i e <;> rw [e] at k <;> simp_all
@[simp] theorem keeps_askRaise (n : Fin 4) (h : Keeps s t) : Keeps s (askRaise n t) := by
  unfold askRaise; dsimp only; split <;> simp (maxDischargeDepth := 30) [h]
@[simp] theorem keeps_entryActions (x : Stage) (h : Keeps s t) : Keeps s (entryActions x t) := by
  unfold entryActions; (repeat' split) <;> simp (maxDischargeDepth := 30) [h]
@[simp] theorem keeps_enterStage (x : Stage) (h : Keeps s t) : Keeps s (enterStage x t) := by
  simp (maxDischargeDepth := 30) [enterStage, h]
@[simp] theorem keeps_toIdle (h : Keeps s t) : Keeps s (toIdle t) := by simp [toIdle, h]
@[simp] theorem keeps_failPlan (r : FailReason) (h : Keeps s t) : Keeps s (failPlan r t) := by
  simp (maxDischargeDepth := 30) [failPlan, h]
@[simp] theorem keeps_failRunning (r : FailReason) (h : Keeps s t) : Keeps s (failRunning r t) := by
  simp [failRunning, h]
@[simp] theorem keeps_targetLatched (n : Fin 4) (h : Keeps s t) : Keeps s (targetLatched n t) := by
  simp [targetLatched, h]
@[simp] theorem keeps_targetFell (n : Fin 4) (h : Keeps s t) : Keeps s (targetFell n t) := by
  simp (maxDischargeDepth := 30) [targetFell, h]
@[simp] theorem keeps_leaveArmed (h : Keeps s t) : Keeps s (leaveArmed t) := by
  unfold leaveArmed; split <;> simp (maxDischargeDepth := 30) [h]
@[simp] theorem keeps_derivePlan (h : Keeps s t) : Keeps s (derivePlan t) := by
  unfold derivePlan
  split
  · split
    · exact h
    · split <;> simp (maxDischargeDepth := 30) [h]
  · exact h
@[simp] theorem keeps_openingTest (h : Keeps s t) : Keeps s (openingTest t) := by
  simp (maxDischargeDepth := 30) [openingTest, h]
@[simp] theorem keeps_rederive (h : Keeps s t) : Keeps s (rederive t) := by simp (maxDischargeDepth := 30) [rederive, h]
@[simp] theorem keeps_armPlan (p : Plan) (h : Keeps s t) : Keeps s (armPlan p t) := by
  simp (maxDischargeDepth := 30) [armPlan, h]
@[simp] theorem keeps_armTest (h : Keeps s t) : Keeps s (armTest t) := by
  unfold armTest
  split
  · split <;> simp (maxDischargeDepth := 30) [h]
  · exact h
@[simp] theorem keeps_runLowering (p : Plan) (h : Keeps s t) : Keeps s (runLowering p t) := by
  simp (maxDischargeDepth := 30) [runLowering, h]
@[simp] theorem keeps_runSwitching (p : Plan) (h : Keeps s t) : Keeps s (runSwitching p t) := by
  unfold runSwitching; split <;> simp (maxDischargeDepth := 30) [h]
@[simp] theorem keeps_runRaising (p : Plan) (h : Keeps s t) : Keeps s (runRaising p t) := by
  unfold runRaising; split <;> simp (maxDischargeDepth := 30) [h]
@[simp] theorem keeps_runProving (p : Plan) (h : Keeps s t) : Keeps s (runProving p t) := by
  simp (maxDischargeDepth := 30) [runProving, h]
@[simp] theorem keeps_runClosing (p : Plan) (h : Keeps s t) : Keeps s (runClosing p t) := by
  simp (maxDischargeDepth := 30) [runClosing, h]
@[simp] theorem keeps_sequencerRun (h : Keeps s t) : Keeps s (sequencerRun t) := by
  unfold sequencerRun; (repeat' split) <;> simp (maxDischargeDepth := 30) [h]
@[simp] theorem keeps_waitingTest (h : Keeps s t) : Keeps s (waitingTest t) := by
  unfold waitingTest; (repeat' split) <;> simp (maxDischargeDepth := 30) [h]
@[simp] theorem keeps_raiseRetry (b : RaiseBar) (h : Keeps s t) : Keeps s (raiseRetry b t) := by
  unfold raiseRetry; (repeat' split) <;> simp (maxDischargeDepth := 30) [h]
@[simp] theorem keeps_onListChange (c : Bool) (h : Keeps s t) : Keeps s (onListChange c t) := by
  unfold onListChange; dsimp only; (repeat' split) <;> simp (maxDischargeDepth := 30) [h]
@[simp] theorem keeps_onReversal (h : Keeps s t) : Keeps s (onReversal t) := by
  have k := keeps_withCsq { t.csq with declined := none } h
  exact keeps_ite (keeps_toIdle k) (keeps_failRunning _ k)
@[simp] theorem keeps_onMode (h : Keeps s t) : Keeps s (onMode t) := by
  unfold onMode; split <;> simp (maxDischargeDepth := 30) [h]
@[simp] theorem keeps_onProcDone (c : Caller) (h : Keeps s t) : Keeps s (onProcDone c t) := by
  simp (maxDischargeDepth := 30) [onProcDone, h]
@[simp] theorem keeps_onProcFailed (c : Caller) (h : Keeps s t) : Keeps s (onProcFailed c t) := by
  simp (maxDischargeDepth := 30) [onProcFailed, h]
@[simp] theorem keeps_onIsoFault (a : Actuator) (h : Keeps s t) : Keeps s (onIsoFault a t) := by
  unfold onIsoFault; split <;> simp [h]

/-! ## Ice Clearing Unit -/

@[simp] theorem keeps_setHeatList (l : List HeatEntry) (h : Keeps s t) : Keeps s (setHeatList l t) := by
  simp (maxDischargeDepth := 30) [setHeatList, h]
@[simp] theorem keeps_setDemand (n : Fin 4) (b : Bool) (h : Keeps s t) : Keeps s (setDemand n b t) := by
  simp [setDemand, h]
@[simp] theorem keeps_headDemand (n : Fin 4) (h : Keeps s t) : Keeps s (headDemand n t) := by
  simp (maxDischargeDepth := 30) [headDemand, h]
@[simp] theorem keeps_headDown (n : Fin 4) (h : Keeps s t) : Keeps s (headDown n t) := by
  simp (maxDischargeDepth := 30) [headDown, h]
@[simp] theorem keeps_setScraper (c : Option (Fin 4)) (h : Keeps s t) : Keeps s (setScraper c t) := by
  simp (maxDischargeDepth := 30) [setScraper, h]
@[simp] theorem keeps_scraperEval (h : Keeps s t) : Keeps s (scraperEval t) := by
  unfold scraperEval; dsimp only; (repeat' split) <;> simp (maxDischargeDepth := 30) [h]
@[simp] theorem keeps_scraperRole (h : Keeps s t) : Keeps s (scraperRole t) := by
  unfold scraperRole; split <;> simp [h]
@[simp] theorem keeps_iceOnCurrent (h : Keeps s t) : Keeps s (iceOnCurrent t) :=
  keeps_foldl _ (fun _ _ h => keeps_headDemand _ h) _ _ (keeps_withIcu _ h)

/-! ## Roof Line Link -/

@[simp] theorem keeps_setLink (x : Rll) (h : Keeps s t) : Keeps s (setLink x t) := by
  simp (maxDischargeDepth := 30) [setLink, h]
@[simp] theorem keeps_uncouple (h : Keeps s t) : Keeps s (uncouple t) := by simp [uncouple, h]
@[simp] theorem keeps_runCoupling (h : Keeps s t) : Keeps s (runCoupling t) := by
  have k : Keeps s (if (t.act .rc).commanded = .closed then (t, ReqOut.absorbed) else request .rc .closed .link t).1 := by
    split
    · exact h
    · exact keeps_request _ _ _ h
  unfold runCoupling; dsimp only
  refine keeps_ite (keeps_uncouple h) ?_
  split <;> rename_i e <;> rw [e] at k
  · exact keeps_uncouple k
  · exact keeps_ite (keeps_setLink _ k) k
@[simp] theorem keeps_endUncoupling (h : Keeps s t) : Keeps s (endUncoupling t) := by
  simp (maxDischargeDepth := 30) [endUncoupling, h]
@[simp] theorem keeps_runUncoupling (h : Keeps s t) : Keeps s (runUncoupling t) := by
  have k := keeps_ite (c := (decide ((t.act .mb).confirmed = .opened) && decide ((t.act .mb).motion = .none)) = true)
    (keeps_request .rc .opened .link h) h
  unfold runUncoupling; dsimp only
  exact keeps_ite (keeps_endUncoupling k) k
@[simp] theorem keeps_runSenior (h : Keeps s t) : Keeps s (runSenior t) := by
  unfold runSenior; (repeat' split) <;> simp [h]
@[simp] theorem keeps_linkRun (h : Keeps s t) : Keeps s (linkRun t) := by
  unfold linkRun; (repeat' split) <;> simp [h]
@[simp] theorem keeps_conflictTest (h : Keeps s t) : Keeps s (conflictTest t) := by
  unfold conflictTest; (repeat' split) <;> simp (maxDischargeDepth := 30) [h]
@[simp] theorem keeps_linkReset (h : Keeps s t) : Keeps s (linkReset t) := by
  simp (maxDischargeDepth := 30) [linkReset, h]

/-! ## Hand-offs -/

@[simp] theorem keeps_onChannel (n : Fin 4) (a b : ChState) (h : Keeps s t) : Keeps s (onChannel n a b t) := by
  simp (maxDischargeDepth := 30) [onChannel, h]
@[simp] theorem keeps_onCurrent (h : Keeps s t) : Keeps s (onCurrent t) := by
  unfold onCurrent; dsimp only; simp (maxDischargeDepth := 30) [h]
@[simp] theorem keeps_onConfirmed (a : Actuator) (p : Confirmed) (h : Keeps s t) : Keeps s (onConfirmed a p t) := by
  unfold onConfirmed; split <;> simp (maxDischargeDepth := 30) [h]
@[simp] theorem keeps_onCommanded (a : Actuator) (h : Keeps s t) : Keeps s (onCommanded a t) := by
  unfold onCommanded; split <;> simp (maxDischargeDepth := 30) [h]
@[simp] theorem keeps_onFault (a : Actuator) (h : Keeps s t) : Keeps s (onFault a t) := by
  simp (maxDischargeDepth := 30) [onFault, h]
@[simp] theorem keeps_handle (g : Signal) (h : Keeps s t) : Keeps s (handle g t) := by
  unfold handle; split <;> simp (maxDischargeDepth := 30) [h]
@[simp] theorem keeps_settleStep (h : Keeps s t) : Keeps s (settleStep t) := by
  unfold settleStep; split <;> simp (maxDischargeDepth := 30) [h]

theorem keeps_settleN : ∀ (n : Nat) (t : State), Keeps s t → Keeps s (settleN n t)
  | 0, _, h => h
  | n + 1, t, h => by
    unfold settleN
    split
    · exact h
    · exact keeps_settleN n _ (keeps_settleStep h)

/-- Whatever is handed on, the inputs, the position, the classifier, the force tables, the mode, the parameters and the
queue stay; so does the Vehicle Link Port while no notice may be handed over. -/
@[simp] theorem keeps_settle (h : Keeps s t) : Keeps s (settle t) := keeps_settleN _ _ h

/-! ## Settling -/

/-- With nothing handed on there is nothing to act on. -/
theorem settle_of_quiet (h : s.work = []) : settle s = s := by
  unfold settle settleBound settleN; simp [h]

/-- A property that does not look at the hand-offs and that each hand-off with its refresh keeps is kept by settling. -/
theorem settleN_induct {P : State → Prop} (hw : ∀ s x, P s → P (s.withWork x))
    (hs : ∀ s g, P s → P (refresh (handle g s))) : ∀ (n : Nat) (s : State), P s → P (settleN n s)
  | 0, _, h => h
  | n + 1, s, h => by
    unfold settleN
    split
    · exact h
    · rename_i g l hl
      refine settleN_induct hw hs n _ ?_
      unfold settleStep
      simp only [hl]
      exact hw _ _ (hs _ g (hw _ _ h))

theorem settle_induct {P : State → Prop} (hw : ∀ s x, P s → P (s.withWork x))
    (hs : ∀ s g, P s → P (refresh (handle g s))) (h : P s) : P (settle s) := settleN_induct hw hs _ _ h

end Sys2Proof.Machine
end

