-- ==== Sys2Proof/Tests/Slice0.lean ====
section
/-! SUPPORT. Tests: ill-formed commands that the check refuses, the manual's worked examples, and for each statement with
premises a state and operands that meet them. Expected values come from the manual's examples and tables. -/

namespace Sys2Proof.Tests

open Sys2Proof Sys2Proof.Machine

set_option maxRecDepth 100000

/-! ## States the tests are made on -/

/-- The state a command leaves. -/
def after (i : Instr) (s : State) : State := match exec i s with | .next t => t | _ => s

/-- The payloads of the answers in hand, oldest first. -/
def answers (s : State) : List (List Byte) := (s.vlp.tx.toList ++ s.vlp.inHand).map (·.payload)

def put (s : State) (n : Nat) (v : Nat) : State := s.withParams (s.params.set! (n - 1) v)
def at_ (p : Pos) (s : State) : State := s.withPos p
def chan (n : Fin 4) (c : Channel) (s : State) : State := s.setCh n c
def act (a : Actuator) (r : ActRec) (s : State) : State := s.setAct a r

def stowed : Channel :=
  { state := .down, role := .none, fallCause := none, latch := none, snapshot := none, setpoint := 0, stroke := none
    rise := none, fall := none, contact := none, arcs := [], suspect := false }
def collecting : Channel := { stowed with state := .up, role := .collector, setpoint := 70 }
def rising : Channel := { stowed with state := .rising, role := .collector, setpoint := 70, rise := some 32000 }
def openRec : ActRec :=
  { commanded := .opened, confirmed := .opened, motion := .none, elapsed := 0, settle := 0, pending := none, fault := false }
def closedRec : ActRec := { openRec with commanded := .closed, confirmed := .closed }
def faultyRec : ActRec := { openRec with confirmed := .unsure, fault := true }

/-- As after reset, with every drop latch cleared and every actuator confirmed open and at rest. -/
def idle : State :=
  ((((State.reset.setCh 0 stowed).setCh 1 stowed).setCh 2 stowed).setCh 3 stowed)

/-- A car under AC25 with channel 1 UP as collector, IS1 and KA closed and MB as given. -/
def fed (mb : ActRec) : State :=
  let s := ((idle.setCh 1 collecting).setAct .ka closedRec).setAct .is1 closedRec
  let s := (s.setAct .mb mb).withMode .run
  let s := s.withLcl { s.lcl with line := .sys .ac25 }
  s.withSgd { s.sgd with selected := some .ac25, reasons := condReasons (s.withSgd { s.sgd with selected := some .ac25 }) s.sgd.reasons }

def live : State := fed closedRec
def waiting : State := fed openRec

def openSection : SectionRec := { fit := .any, ice := false, stretch := .openLine .ac25 }
def rawOpen : RawRecord :=
  { kind := 0, supply := 0, headFit := 2, ice := 0, gapLo := 0, gapHi := 0, supplyLo := 0, supplyHi := 0, lowerInGap := 0 }
def rawGap (kind : Byte) (lo hi : Quad) (b : Byte) : RawRecord :=
  { rawOpen with kind := kind, gapLo := lo, gapHi := hi, supplyHi := b }
def spanOf (r : RawRecord) : SpanFields := { route := 214, granule := 3177, pinned := 0, head := r, tail := none }
def zoneOf (base : Half) (k : Byte) (r : RawRecord) : ZoneFields := { route := 214, base := base, sizeCode := k, record := r }

def contentOf (g : Nat) (p : Bool) : SpanContent :=
  { route := 214, granule := g, pinned := p, head := openSection, tail := none }
def entryOf (g : Nat) : SpanEntry :=
  { valid := true, barred := false, used := false, content := contentOf g false, code := contentOf g false }
def withSpan (k : Fin 40) (e : SpanEntry) (s : State) : State := s.withRmap { s.rmap with spans := s.rmap.spans.set k.val e k.isLt }
def withZone (k : Fin 6) (z : ZoneContent) (s : State) : State :=
  s.withRmap { s.rmap with zones := s.rmap.zones.set k.val { valid := true, content := z, code := z } k.isLt }

/-- RSTW's own answer. -/
def someFrame : TxFrame := { kind := 0x43, tag := 1, payload := [0] }

/-! ## Commands the check refuses -/

theorem test_wf_fixp_position : (Instr.fixp 0 4194304 214 0).wellFormed = false := by decide
theorem test_wf_fixp_route : (Instr.fixp 0 0 0 0).wellFormed = false := by decide
theorem test_wf_fixp_sense : (Instr.fixp 0 0 214 2).wellFormed = false := by decide
theorem test_wf_span_route : (Instr.maps { spanOf rawOpen with route := 4096 }).wellFormed = false := by decide
theorem test_wf_span_granule : (Instr.maps { spanOf rawOpen with granule := 16384 }).wellFormed = false := by decide
theorem test_wf_span_boundary : (Instr.maps { spanOf rawOpen with tail := some (0, rawOpen) }).wellFormed = false := by decide
theorem test_wf_record_kind : (Instr.maps (spanOf { rawOpen with kind := 4 })).wellFormed = false := by decide
theorem test_wf_record_supply : (Instr.maps (spanOf { rawOpen with supply := 4 })).wellFormed = false := by decide
theorem test_wf_record_fit : (Instr.maps (spanOf { rawOpen with headFit := 3 })).wellFormed = false := by decide
theorem test_wf_record_ice : (Instr.maps (spanOf { rawOpen with ice := 2 })).wellFormed = false := by decide
theorem test_wf_gap_edges : (Instr.maps (spanOf (rawGap 1 813400 813400 0))).wellFormed = false := by decide
theorem test_wf_gap_limit : (Instr.maps (spanOf (rawGap 1 4194300 4194304 0))).wellFormed = false := by decide
theorem test_wf_gap_length : (Instr.maps (spanOf (rawGap 1 813400 815449 0))).wellFormed = false := by decide
theorem test_wf_mapd_slot : (Instr.mapd 40 (spanOf rawOpen)).wellFormed = false := by decide
theorem test_wf_mapz_slot : (Instr.mapz 6 none).wellFormed = false := by decide
theorem test_wf_mapz_size : (Instr.mapz 0 (some (zoneOf 0 11 rawOpen))).wellFormed = false := by decide
theorem test_wf_mapp_route : (Instr.mapp 0 0).wellFormed = false := by decide
theorem test_wf_mapc_variant : (Instr.mapc 2).wellFormed = false := by decide
theorem test_wf_mapr_slot : (Instr.mapr 1 6).wellFormed = false := by decide
theorem test_wf_mapq_point : (Instr.mapq 0 4194304).wellFormed = false := by decide
theorem test_wf_channel : ([Instr.rais 4, .lowr 4, .armc 4, .snap 4, .isolIsolate 4, .isolRestore 4].all fun i => !i.wellFormed) = true := by
  decide
theorem test_wf_ftab_order : (Instr.ftab 0 (Vector.replicate 8 ⟨100, 70⟩)).wellFormed = false := by decide
theorem test_wf_ftab_head : (Instr.ftab 2 (Vector.replicate 8 ⟨100, 70⟩)).wellFormed = false := by decide
theorem test_wf_travel : (Instr.travelFeedbackChange .mb true).wellFormed = false := by decide
theorem test_wf_fclr : (Instr.fclr 11).wellFormed = false := by decide
theorem test_wf_sels : (Instr.sels 4).wellFormed = false := by decide
theorem test_wf_chng : (Instr.chng 4).wellFormed = false := by decide
theorem test_wf_heat : (Instr.heat 6 0 1).wellFormed = false ∧ (Instr.heat 0 4 1).wellFormed = false := by decide
theorem test_wf_evrt : ([Instr.evrtRead 0 24, .evrtRead 1 3, .evrtRead 2 0, .evrtWriteEvent 0 1 8, .evrtWriteLine 0 2 100].all
    fun i => !i.wellFormed) = true := by decide
theorem test_wf_slak : (Instr.slak 8).wellFormed = false := by decide
theorem test_wf_setp : (Instr.setp 0 0).wellFormed = false ∧ (Instr.setp 47 0).wellFormed = false := by decide
theorem test_wf_getp : (Instr.getp 47).wellFormed = false := by decide
theorem test_wf_unknown : (Instr.unknownCommand 0x10 0).wellFormed = false ∧ (Instr.unknownCommand 0x40 0).wellFormed = false := by
  decide

/-! ## The manual's worked examples -/

/-- No row of the table gives bits. -/
theorem test_no_row_has_bits : decodeTableWord 8 0 = none ∧ State.reset.withFetchWord 8 0 = State.reset := by decide

/-- 1.5, the table of speeds. -/
theorem test_speed_table :
    ([(3000, 5926, 3200), (2830, 5890, 3000), (2830, 5889, 2999), (2830, 101, 51), (2830, 100, 50), (2830, 2, 1)].all
      fun (l, e, v) =>
        decide ((after .speedIntervalEnd ((put State.reset 1 l).withPos { State.reset.pos with gate := e })).pos.speed = v)) = true := by
  decide

/-- 1.7, a fix applied, then repeated. -/
def fix17 : State :=
  State.reset.withPos { State.reset.pos with
    m := 812391, u := 517300, route := 214, slotSeq := 17, slot := some { m := 812044, u := 402110 } }
theorem test_fix_applied :
    (after (.fixp 17 812050 214 0) fix17).pos = { fix17.pos with m := 812397, slot := none } ∧
    answers (after (.fixp 17 812050 214 0) fix17) = [[0]] ∧
    (let t := after (.fixp 17 812050 214 0) (after (.fixp 17 812050 214 0) fix17)
     t.pos = { fix17.pos with m := 812397, slot := none } ∧ t.vlp.inHand.map (·.payload.head?) = [some 0x17]) := by decide

/-- 1.7, a fix onto a route measured the other way. -/
def fix18 : State :=
  State.reset.withPos { State.reset.pos with m := 900152, route := 214, slotSeq := 18, slot := some { m := 900120, u := 0 } }
theorem test_fix_turns_the_route :
    (after (.fixp 18 15600 37 1) fix18).pos =
      { fix18.pos with m := 15632, route := 37, sense := .minus, dir := .descending, slot := none } := by decide

/-- 1.8, the upper limit, and the edge back. -/
def atTop : State := State.reset.withPos { State.reset.pos with m := 4194303, u := 998500 }
theorem test_upper_limit :
    (let t := after (.axleTransition true false) atTop
     t.pos.u = 999999 ∧ t.pos.m = 4194303 ∧ t.pos.range = true ∧ t.pos.gate = 1) ∧
    (let t := after (.axleTransition true true) (after (.axleTransition true false) atTop)
     t.pos.u = 999999 ∧ t.pos.gate = 2) ∧
    (let t := after (.axleTransition false false) (after (.axleTransition true false) atTop)
     t.pos.u = 997169 ∧ t.pos.m = 4194303 ∧ t.pos.range = true ∧ t.pos.reversal = 1) := by decide

/-- 2.3, precedence at one point. -/
def zone1 : ZoneContent := { route := 214, base := 4096, sizeCode := 10, record := openSection }
def zone3 : ZoneContent := { route := 214, base := 4800, sizeCode := 6, record := { openSection with ice := true } }
def twoZones : State := withZone 3 zone3 (withZone 1 zone1 State.reset)
def bounded (b : Nat) : SpanEntry :=
  let c := { contentOf 4822 false with tail := some (b, { openSection with ice := true }) }
  { valid := true, barred := false, used := false, content := c, code := c }
theorem test_precedence :
    ((lookup (withSpan 5 (bounded 120) twoZones).rmap 214 1234567).hit.map (·.source)) = some (.span 5 true) ∧
    ((lookup (withSpan 5 (bounded 200) twoZones).rmap 214 1234567).hit.map (·.source)) = some (.span 5 false) ∧
    ((lookup (withSpan 5 (entryOf 4822) twoZones).rmap 214 1234567).hit.map (·.source)) = some (.span 5 false) ∧
    ((lookup twoZones.rmap 214 1234567).hit.map (·.source)) = some (.zone 1) ∧
    ((lookup State.reset.rmap 214 1234567).hit.map (·.source)) = none := by decide

/-- The window's 960th period has ended. -/
def due (s : State) : State := s.withLcl { s.lcl with endDue := true }
/-- 3.6, the worked windows a to j, and window a with five clipped samples. -/
def window (s1 : Int) (s2 z c : Nat) : State := due (State.reset.withLcl { State.reset.lcl with s1 := s1, s2 := s2, z := z, c := c })
def judged (s1 : Int) (s2 z c : Nat) : Option (WinResult × Int × Nat) :=
  (after .windowEnd (window s1 s2 z c)).lcl.last.map fun w => (w.result, w.mean, w.rac)
theorem test_window_a : judged (-4800) 74880000000 24 0 = some (.sys .ac25, -5, 8831) := by decide
theorem test_window_b : judged (-4800) 74880000000 8 0 = some (.sys .ac15, -5, 8831) := by decide
theorem test_window_c : judged 9600 38400096000 8 0 = some (.sys .ac15, 10, 6324) := by decide
theorem test_window_d : judged 1440000 2160960000 0 0 = some (.sys .dc3, 1500, 31) := by decide
theorem test_window_e : judged 1440000 2198400000 0 0 = some (.uncertain, 1500, 200) := by decide
theorem test_window_f : judged 720000 540384000 0 0 = some (.sys .dc15, 750, 20) := by decide
theorem test_window_g : judged 945600 931512000 0 0 = some (.uncertain, 985, 10) := by decide
theorem test_window_h : judged 2880 38400000 0 0 = some (.dead, 3, 199) := by decide
theorem test_window_i : judged (-1440000) 2160960000 0 0 = some (.uncertain, -1500, 31) := by decide
theorem test_window_j : judged 0 245760000000 24 0 = some (.over, 0, 16000) := by decide
theorem test_window_clipped : judged (-4800) 74880000000 24 5 = some (.over, -5, 8831) := by decide

/-- 3.3, the detector across a window boundary: the samples before it, then those after it. -/
def feed (v : Half) (s : State) : State := after .samplePeriodEnd (after (.sampleReceive v) s)
theorem test_detector :
    (let t := feed (-480) (feed 640 (feed 120 State.reset))
     t.lcl.cross = .pos ∧ t.lcl.z = 0) ∧
    (let t := feed 520 (feed 300 (feed (-510) (after .windowEnd (due (feed (-480) (feed 640 State.reset))))))
     t.lcl.cross = .pos ∧ t.lcl.z = 2) := by decide

/-- 4.9, forces worked out, and the falling stretch. -/
def inState (r : Role) (v : Nat) : Nat := (State.reset.withPos { State.reset.pos with speed := v }).forceFor 0 r
theorem test_forces :
    inState .collector 0 = 70 ∧ inState .collector 1200 = 84 ∧ inState .collector 2873 = 129 ∧ inState .scraper 2873 = 154 ∧
    inState .collector 3000 = 135 ∧ inState .scraper 4000 = 205 := by decide
theorem test_falling_stretch :
    tableForce #v[⟨0, 70⟩, ⟨100, 150⟩, ⟨200, 130⟩, ⟨250, 130⟩, ⟨300, 130⟩, ⟨320, 130⟩, ⟨350, 130⟩, ⟨400, 130⟩] 1555 = 139 := by
  decide

/-- 5.2, a tap switch that stalls, then FCLR. -/
def stalling : State :=
  act .td { openRec with confirmed := .unsure, motion := .settling, settle := 15 }
    (idle.withInp { idle.inp with feedback := idle.inp.feedback.set 5 .closed, travelTd := true })
theorem test_tap_switch_stalls :
    ((after (.settleSample .td) stalling).act .td).motion = .travel ∧
    (let t := after (.motionTimeout .td) (after (.settleSample .td) stalling)
     (t.act .td).fault = true ∧ (t.act .td).confirmed = .unsure ∧ (t.act .td).motion = .none ∧
     answers (after (.fclr 5) t) ≠ [] ∧ ((after (.fclr 5) t).act .td).fault = true ∧
     ((after (.fclr 5) (after (.travelFeedbackChange .td false) (after (.positionFeedbackChange .td .opened) t))).act .td) =
       { openRec with motion := .none, settle := 15, elapsed := (t.act .td).elapsed }) := by decide

/-- 5.9, BRKC after a self-trip. -/
def tripped : State := waiting.withSgd { waiting.sgd with reasons := { waiting.sgd.reasons with selftrip := true } }
theorem test_brkc_after_self_trip :
    tripped.sgd.reasons.code = 0x80 ∧
    (let t := after .brkc tripped
     t.sgd.reasons.empty = true ∧ (t.act .mb).commanded = .closed ∧ (t.act .mb).confirmed = .unsure ∧ t.sgd.armed = false) := by
  decide

/-- 6.5, CHNG at standstill. -/
def at15 : State :=
  let s := live.withLcl { live.lcl with line := .sys .ac15 }
  (s.setAct .ta closedRec).withSgd { s.sgd with selected := some .ac15, acts := (s.setAct .ta closedRec).sgd.acts }
theorem test_chng_at_standstill :
    (let t := after (.chng 3) at15
     t.csq.stage = .opening ∧ t.csq.plan.map (fun p => (p.source, p.target, p.old, p.lowerNeeded)) =
       some (some .ac15, .dc15, some 1, false) ∧
     t.sgd.reasons.seq = true ∧ (t.act .mb).commanded = .opened) := by decide

/-- 7.3, a HEAT command: the walk over ratings 6, 6, 6, 6, 8, 8 with a budget of 24. -/
theorem test_heat_walk :
    admission (fun h => if h.val < 4 then 6 else 8) 24
      [⟨1, .host, 0, 900⟩, ⟨2, .auto, 1, 388⟩, ⟨4, .auto, 2, 3412⟩, ⟨5, .auto, 2, 3600⟩] = [1, 2, 4] := by decide

/-- 8.3, PEER ON with the grant already present. -/
def granted : State :=
  let s := put idle 40 2
  (s.withInp { s.inp with gtIn := true }).withRll { s.rll with state := .detached }
theorem test_peer_on_with_grant :
    (after .peerOn granted).rll.state = .coupling ∧ (after .peerOn granted).rll.rq = true ∧
    ((after .peerOn granted).act .rc).commanded = .closed := by decide

/-- 9.3, routing drops to a latched line. -/
theorem test_routing :
    (let t := after (.evrtWriteEvent 10 1 1) (after (.evrtWriteLine 0 1 500) State.reset)
     t.evr.lines.get 0 = { latch := true, length := 500, active := false, timer := none, first := none } ∧
     t.evr.routes.get 10 = { notify := true, mask := 1 } ∧
     (after (.stripAssert 1) t).evr.lines.get 0 = { latch := true, length := 500, active := true, timer := none, first := some 10 }) := by decide

/-! ## Witnesses: states and operands that meet the premises of each statement -/

/-- A frame is being sent and the notice queue is full. -/
def queued (e : Event) : State :=
  (State.reset.withVlp { State.reset.vlp with tx := some someFrame }).withEvr
    { State.reset.evr with queue := List.replicate 16 { event := e, coalesced := false } }

/-- Nothing is in course and no role is set on the roof line. -/
def calmly (s : State) : State := put (put s 39 0) 40 0
def mending (p : Channel → Channel) (n : Fin 4) (s : State) : State := s.setCh n (p (s.ch n))
def inStage (st : Stage) (p : Option Plan) (f : Option FailReason) (s : State) : State :=
  s.withCsq { s.csq with stage := st, plan := p, failReason := f }
def aPlan : Plan :=
  { source := some .ac25, target := .dc3, route := some { approach := 814900, far := 815250, dir := .ascending }
    lowerNeeded := true, old := some 1, tgt := some 2, fed := false }

/-- The sample of a's motion toward p is due and shows p, or shows the other place. -/
def travelling (a : Actuator) (p f : Place) (s : State) : State :=
  (act a { openRec with commanded := p, confirmed := .unsure, motion := .settling, settle := 15 } s).withInp
    { s.inp with feedback := s.inp.feedback.set (actNo a).val f (actNo a).isLt }
def arriving (a : Actuator) (p : Place) (s : State) : State := travelling a p p s
def straying (a : Actuator) (p : Place) (s : State) : State := travelling a p (if p = .closed then .opened else .closed) s
/-- The selected system and the condition reasons as they stand. -/
def told (s : State) : State :=
  let u := s.withSgd { s.sgd with selected := s.selectedNow }
  u.withSgd { u.sgd with reasons := condReasons u u.sgd.reasons }
/-- No actuator is faulted and none in motion is confirmed. -/
def sound (s : State) : Bool :=
  actuators.all fun a => !(s.act a).fault && (decide ((s.act a).motion = .none) || decide ((s.act a).confirmed = .unsure))
theorem sound_held {s : State} (h : sound s = true) : s.faultsHeld ∧ s.motionsHeld := by
  have k : ∀ a, (!(s.act a).fault && (decide ((s.act a).motion = .none) || decide ((s.act a).confirmed = .unsure))) = true :=
    fun a => List.all_eq_true.mp h a (by cases a <;> decide)
  refine ⟨fun a hf => ?_, fun a hm => ?_⟩
  · have := k a; simp [hf] at this
  · have := k a; simp [hm] at this; exact this.2
/-- The scraper channel is the one of role SCRAPER, a stowed channel has no role, and no scraper is raised under a plan. -/
def tidy (s : State) : Bool :=
  channels.all fun n =>
    decide ((s.icu.scraper = some n ↔ (s.ch n).role = .scraper) ∧
      ((s.ch n).state.stowed = true ∨ (s.ch n).state = .stuck → (s.ch n).role = .none) ∧
      (s.csq.stage ≠ .idle → s.csq.stage ≠ .armed → (s.ch n).role = .scraper → (s.ch n).state.raised = false))
theorem tidy_held {s : State} (h : tidy s = true) : s.scraperHeld := fun n =>
  of_decide_eq_true (List.all_eq_true.mp h n (by revert n; decide))

theorem test_live_ready : live.ready ∧ idle.ready ∧ State.reset.ready := by unfold State.ready; decide
theorem test_live_calm : (calmly live).calm ∧ (calmly waiting).calm ∧ (calmly idle).calm := by unfold State.calm; decide
theorem test_live_breaker : live.breakerHeld ∧ waiting.breakerHeld ∧ idle.breakerHeld ∧
    (live.act .mb).commanded = .closed := by unfold State.breakerHeld; decide
theorem test_live_fed : live.fedThroughOne := by
  refine ⟨⟨.ac25, rfl, rfl⟩, .inl ⟨1, ?_⟩⟩
  decide

/-- For StepTakesTheFrontCommand and IdleStepRunsTheClock. -/
theorem test_witness_queue : (State.reset.withPending [.brkc, .stat]).pending = .brkc :: [.stat] ∧ live.pending = [] := by decide
theorem test_witness_idle :
    nextDue State.reset = none ∧ State.reset.lcl.count < 959 ∧
    (nextDue (chan 0 { rising with rise := some 0 } idle)).isSome = true ∧
    nextDue (idle.withLcl { idle.lcl with count := 959 }) = none := by decide

/-- For the step invariants: a live part that meets every promise, and a next state of its step. -/
theorem test_witness_lists : live.withinCapacity ∧ live.keysSingle ∧ live.gapsSingle ∧ live.streakHeld := by
  unfold State.withinCapacity State.keysSingle State.gapsSingle State.streakHeld; decide
theorem test_witness_parameters : live.parametersHeld ∧ live.positionHeld := by
  refine ⟨⟨fun n h1 h2 => ?_, by decide, fun n h1 h2 => ?_⟩, by unfold State.positionHeld; decide⟩
  · interval_cases n <;> decide
  · interval_cases n <;> decide
theorem test_witness_roles : live.rolesSingle ∧ live.latchedLowered ∧ live.forcesHeld := by
  refine ⟨fun r h => ?_, by unfold State.latchedLowered; decide, by unfold State.forcesHeld; decide⟩
  cases r
  · exact absurd rfl h
  · decide
  · decide
theorem test_witness_switchgear : live.faultsHeld ∧ live.pathsApart ∧ live.isolatorsSingle ∧
    (act .ka faultyRec idle).faultsHeld := by
  refine ⟨fun a => ?_, by unfold State.pathsApart; decide, by unfold State.isolatorsSingle; decide, fun a => ?_⟩
  · cases a <;> decide
  · cases a <;> decide
theorem test_witness_moving : live.motionsHeld ∧
    (act .ka { openRec with commanded := .closed, confirmed := .unsure, motion := .settling } idle).motionsHeld := by
  refine ⟨fun a => ?_, fun a => ?_⟩ <;> cases a <;> decide
theorem test_witness_heating : live.heatingHeld ∧ live.heatListHeld := by
  refine ⟨⟨by decide, fun h => ⟨by decide, by decide, ⟨.ac25, rfl⟩⟩⟩, by unfold State.heatListHeld; decide⟩
/-- R144, R147: a budget and a grant set that are those due, with MB closed on AC25. -/
def warmed : State := live.withIcu { live.icu with budget := 40, grant := [1, 4], list := [⟨4, .host, 0, 9⟩, ⟨1, .auto, 1, 9⟩] }
theorem test_witness_heating_followed : warmed.heatingFollowed ∧ warmed.icu.budget = live.par 27 ∧ State.reset.heatingFollowed := by
  unfold State.heatingFollowed; decide
theorem test_witness_plan : live.planHeld ∧ live.linkHeld := by unfold State.planHeld State.linkHeld; decide
/-- R62, R113, R153, R167: a scraper in UP, reclose-armed with no latched reason, and a coupled junior with its grant. -/
def scraping : State := (chan 2 { collecting with role := .scraper } live).withIcu { live.icu with scraper := some 2 }
theorem test_witness_handed_on :
    scraping.work = [] ∧
    (let s := live.withSgd { live.sgd with armed := true }; s.armedHeld ∧ s.sgd.armed = true ∧ s.breakerHeld ∧ s.positionHeld) := by
  unfold State.armedHeld State.breakerHeld State.positionHeld; decide
theorem test_witness_link_followed :
    let s := act .rc closedRec ((put idle 40 2).withInp { idle.inp with gtIn := true })
    let t := s.withRll { state := .coupled, rq := true, gt := false, cpl := true, conflict := false, detach := false }
    t.linkHeld ∧ t.linkFollowed ∧ t.work = [] := by
  unfold State.linkHeld State.linkFollowed; decide
theorem test_witness_scraper_held : live.scraperHeld ∧ scraping.scraperHeld := ⟨tidy_held (by decide), tidy_held (by decide)⟩
theorem test_witness_live_steps : ∃ t, step live = .next t := ⟨_, rfl⟩

/-- For FieldsOutOfRangeAreRefused and ModeResetAndParametersAreSet. -/
theorem test_witness_range : commandKind (.rais 4) = some 0x20 ∧ (Instr.rais 4).wellFormed = false ∧ State.reset.ready := by
  unfold State.ready; decide
/-- Log entry 16: a speed above 400 is told before one that does not ascend. -/
theorem test_ftab_names_the_speed :
    let v : Vector RawPoint 8 := #v[⟨10, 70⟩, ⟨10, 70⟩, ⟨200, 130⟩, ⟨250, 130⟩, ⟨300, 130⟩, ⟨320, 130⟩, ⟨401, 130⟩, ⟨402, 130⟩]
    answers (after (.ftab 0 v) State.reset) = [[0x12, 0, 25]] ∧ badField (.ftab 0 v) = some 25 := by decide
theorem test_witness_reset_pending :
    (State.reset.withVlp { State.reset.vlp with resetPending := true }).vlp.resetPending = true ∧
    commandKind .stat = some 1 := by decide

/-- For ReadsAnswerWhatIsStored: the first byte values that name nothing. -/
theorem test_witness_reads : 4 ≤ (4 : Byte).toNat ∧ 2 ≤ (2 : Byte).toNat ∧ 40 ≤ (40 : Byte).toNat ∧ 6 ≤ (6 : Byte).toNat := by decide

/-- For MapqAnswersTheLookup: an answer by a span with and without a boundary, by a zone, and a miss. -/
theorem test_witness_mapq :
    (let s := withSpan 5 (bounded 120) twoZones
     s.ready ∧ (214 : Half).toNat ≤ 4095 ∧ (1234567 : Quad).toNat ≤ 4194303 ∧
     ((s.rmap.spans.get 5).hasKey 214 4822 && (s.rmap.spans.get 5).intact) = true ∧
     ∀ j : Fin 40, j < 5 → ((s.rmap.spans.get j).hasKey 214 4822 && (s.rmap.spans.get j).intact) = false) ∧
    (∀ k : Fin 40, ((twoZones.rmap.spans.get k).hasKey 214 4822 && (twoZones.rmap.spans.get k).intact) = false) ∧
    ((twoZones.rmap.zones.get 1).covers 214 4822 && (twoZones.rmap.zones.get 1).intact) = true ∧
    (∀ j : Fin 6, j < 1 → ((twoZones.rmap.zones.get j).covers 214 4822 && (twoZones.rmap.zones.get j).intact) = false) ∧
    (∀ j : Fin 6, ((State.reset.rmap.zones.get j).covers 214 4822 && (State.reset.rmap.zones.get j).intact) = false) := by
  unfold State.ready; decide

/-- For MapsWritesTheSlotItChooses: a kind refused, slot 0 of an empty table, the entry of the key, and a table with no
place. -/
def fullMap : State := State.reset.withRmap { State.reset.rmap with
  spans := Vector.ofFn fun k => { entryOf k.val with content := contentOf k.val true, code := contentOf k.val true } }
theorem test_witness_maps :
    (SpanFields.content (spanOf rawOpen)).kindsOk = true ∧
    (SpanFields.content (spanOf { rawGap 1 813400 813700 0 with supplyHi := 2 })).kindsOk = false ∧
    (Instr.maps (spanOf { rawGap 1 813400 813700 0 with supplyHi := 2 })).wellFormed = true ∧
    State.reset.rmap.mapsTakes 214 3177 0 ∧ (withSpan 39 (entryOf 3177) State.reset).rmap.mapsTakes 214 3177 39 ∧
    fullMap.ready ∧ ∀ k, ¬ fullMap.rmap.mapsTakes 214 3177 k := by
  unfold Rmap.mapsTakes State.ready; decide

/-- For MapdAndMapzWriteTheirSlots and MappAndMapcInvalidateEntries: another valid entry of the key, and none. -/
theorem test_witness_mapd :
    (let s := withSpan 39 (entryOf 3177) State.reset
     s.ready ∧ s.keysSingle ∧ (spanOf rawOpen).inRange = true ∧
     ((s.rmap.spans.get 39).hasKey 214 3177 && (s.rmap.spans.get 39).intact) = true) ∧
    (∀ j, ((State.reset.rmap.spans.get j).hasKey 214 3177 && (State.reset.rmap.spans.get j).intact) = false) ∧
    State.reset.keysSingle := by
  unfold State.ready State.keysSingle; decide

/-- For MAPC UNPINNED: a pinned entry that passes its check, one that fails it, and a barred one. -/
theorem test_witness_mapc :
    (let e := { entryOf 3177 with content := contentOf 3177 true, code := contentOf 3177 true }
     let s := withSpan 1 { e with code := contentOf 1 true } (withSpan 0 e State.reset)
     let u := withSpan 2 { e with valid := false, barred := true } s
     u.ready ∧ (u.rmap.spans.get 0).content = (u.rmap.spans.get 0).code ∧ (u.rmap.spans.get 1).content ≠ (u.rmap.spans.get 1).code ∧
     (u.rmap.spans.get 0).content.pinned = true ∧ (u.rmap.spans.get 2).barred = true) := by
  unfold State.ready; decide

/-- For MapSweepProbesBothPoints: five gaps on the stretch of 500 m, of which four are listed; and an edge that passes one
gap and not another. -/
def gapSpan (g lo1 lo2 : Nat) : SpanEntry :=
  let r (lo : Nat) : SectionRec :=
    { fit := .any, ice := false
      stretch := .phaseGap { lo := lo, hi := lo + 10, supplyLo := .ac25, supplyHi := .ac25, lowerInGap := false } }
  let c : SpanContent := { route := 214, granule := g, pinned := false, head := r lo1, tail := some (128, r lo2) }
  { valid := true, barred := false, used := false, content := c, code := c }
def gappy : State :=
  (withSpan 2 (gapSpan 2 600 700) (withSpan 1 (gapSpan 1 300 450) (withSpan 0 (gapSpan 0 50 200) (put State.reset 2 500)))).withPos
    { State.reset.pos with route := 214, m := 199, u := 999999 }
theorem test_witness_sweep :
    gappy.work = [] ∧ gappy.pos.m ≤ 4194303 ∧ (after .mapSweep gappy).rmap.watch.length = 4 ∧
    (after .mapSweep gappy).rmap.short = true ∧ ((lookup gappy.rmap 214 690).hit.bind (·.record.watch)).map (·.gap.lo) = some 700 ∧
    gappy.passed { lo := 700, hi := 710, supplyLo := .ac25, supplyHi := .ac25, lowerInGap := false } = false ∧
    ((after .mapSweep gappy).rmap.watch.map (·.gap.lo)) = [200, 300, 450, 600] := by decide
theorem test_witness_removal :
    let g (lo : Nat) : WatchGap :=
      { system := true, gap := { lo := lo, hi := lo + 10, supplyLo := .ac25, supplyHi := .dc3, lowerInGap := false } }
    let s := gappy.withRmap { gappy.rmap with watch := [g 129, g 200] }
    s.positionHeld ∧ (after (.axleTransition true false) s).pos.m = 200 ∧
    (after (.axleTransition true false) s).passed (g 129).gap = true ∧
    g 200 ∈ (after (.axleTransition true false) s).rmap.watch ∧ g 129 ∉ (after (.axleTransition true false) s).rmap.watch := by
  unfold State.positionHeld; decide

/-- For MapdAndMapzWriteTheirSlots: not aligned, a gap kind, written, and an invalid zone. -/
theorem test_witness_mapz :
    (zoneOf 4097 3 rawOpen).inRange = true ∧ 4097 % 2 ^ 3 ≠ 0 ∧ (zoneOf 4096 10 rawOpen).inRange = true ∧ 4096 % 2 ^ 10 = 0 ∧
    (zoneOf 4096 10 (rawGap 1 813400 813700 0)).inRange = true ∧ (State.reset.rmap.zones.get 5).valid = false := by decide

/-- For ProbesFollowTheCrossings: an edge that leaves M, one that moves it with both probes crossed and with none, and one
that turns the direction. -/
theorem test_witness_probes :
    let t (s : State) : State := after (.axleTransition true false) s
    let s (m u : Nat) : State := gappy.withPos { gappy.pos with m := m, u := u }
    gappy.work = [] ∧ gappy.positionHeld ∧ (t (s 199 0)).pos.m = 199 ∧ (t gappy).pos.m = 200 ∧ (t gappy).pos.dir = gappy.pos.dir ∧
    ((s 255 999999).withRmap { gappy.rmap with current := { point := 255, hit := none } }).rmap.current.crossed 256 = true ∧
    (t (s 255 999999)).pos.m = 256 ∧ ({ point := 199, hit := none } : Probe).crossed 200 = false ∧
    ({ point := 127, hit := (lookup gappy.rmap 214 127).hit } : Probe).crossed 128 = true ∧
    (after (.axleTransition false true) (gappy.withPos { gappy.pos with reversal := 15 })).pos.dir ≠ gappy.pos.dir := by
  unfold State.positionHeld; decide

/-- For AxleEdgeMovesThePosition: an edge each way, at both limits, and a reversal at its last edge. -/
theorem test_witness_axle :
    atTop.positionHeld ∧ quadPlace true false = (quadPlace false false + 1) % 4 ∧
    quadPlace false false = (quadPlace false true + 1) % 4 ∧
    (atTop.withPos { atTop.pos with m := 0, u := 0, reversal := 15 }).positionHeld := by
  unfold State.positionHeld; decide

/-- For FixpShiftsThePosition. -/
theorem test_witness_fixp :
    State.reset.pos.slot = none ∧ fix17.ready ∧ (Instr.fixp 17 812050 214 0).wellFormed = true ∧
    fix17.pos.slot = some { m := 812044, u := 402110 } ∧ (17 : Byte).toNat = fix17.pos.slotSeq ∧
    (16 : Byte).toNat ≠ fix17.pos.slotSeq ∧ (Instr.fixp 255 4194303 4095 1).wellFormed = true := by
  unfold State.ready; decide

/-- For SamplesAreSummedOnceAPeriod, WindowEndConfirmsTheLine and WindowIsClassifiedByTheBands. -/
theorem test_witness_classifier :
    State.reset.lcl.endDue = false ∧ State.reset.lcl.sampled = false ∧ (after (.sampleReceive 0) State.reset).lcl.sampled = true ∧
    (after (.sampleReceive 0) State.reset).lcl.endDue = false ∧ (window 0 0 0 0).lcl.missing = false ∧
    (after .samplePeriodEnd State.reset).lcl.missing = true ∧ State.reset.lcl.count < 959 ∧ (window 0 0 0 0).lcl.endDue = true ∧
    (due (after .samplePeriodEnd State.reset)).lcl.missing = true ∧ (after .windowEnd (due State.reset)).lcl.last.isSome = true := by
  decide
/-- R44, R59: no window ends before its 960th period; log entry 6: within it the row ends the period too. -/
theorem test_window_end_waits :
    after .windowEnd State.reset = State.reset ∧
    (let s := State.reset.withLcl { State.reset.lcl with count := 959 }
     (after .windowEnd s).lcl.last.map (·.missing) = some true ∧ (after .windowEnd s).lcl.count = 0) := by decide

/-- For RaisRaisesTheCollector: a channel that is not DOWN, the first and the last condition, and a raise. -/
def raisable : State := fed openRec |>.setCh 1 stowed |>.setAct .is1 openRec
theorem test_witness_rais :
    (live.ch 1).state ≠ .down ∧ (State.reset.ch 0).state = .down ∧ (State.reset.raiseConditions 0).findIdx? id = some 0 ∧
    ((inStage .closing (some aPlan) none raisable).raiseConditions 0).findIdx? id = some 8 ∧
    raisable.ready ∧ (raisable.ch 0).state = .down ∧ (raisable.raiseConditions 0).findIdx? id = none ∧
    ((calmly raisable).raiseConditions 0).findIdx? id = none ∧ (calmly raisable).calm := by
  unfold State.ready State.calm; decide

/-- For LowrLowersTheChannel: a channel held by a plan, one with nothing to lower, and one of each that is lowered. -/
def heldByPlan : State := inStage .closing (some aPlan) none live
theorem test_witness_lowr :
    heldByPlan.ready ∧ (heldByPlan.csq.stage.running && (heldByPlan.csq.plan.map fun p => decide (p.old = some 1 ∨ p.tgt = some 1)).getD false) = true ∧
    (live.csq.stage.running && (live.csq.plan.map fun p => decide (p.old = some 1 ∨ p.tgt = some 1)).getD false) = false ∧
    (live.ch 0).state = .down ∧ (live.ch 1).state = .up ∧
    ((chan 2 { collecting with role := .scraper } live).ch 2).role = .scraper ∧ (calmly live).calm := by
  unfold State.ready State.calm; decide

/-- For ArmcAndIsolActOnStowedChannels. -/
theorem test_witness_armc :
    (live.ch 1).state ≠ .down ∧ (live.ch 1).state ≠ .isolated ∧ (idle.ch 0).latch = none ∧ (idle.ch 0).state = .down ∧
    (State.reset.ch 0).latch.isSome = true ∧ State.reset.inp.strip.get 0 = false ∧ State.reset.inp.emerg = false ∧
    (after (.stripAssert 0) State.reset).inp.strip.get 0 = true ∧ ((after (.stripAssert 0) State.reset).ch 0).latch.isSome = true ∧
    (let s := mending (fun c => { c with state := .isolated }) 0 (calmly idle)
     (s.ch 0).state = .isolated ∧ s.inp.housed.get 0 = true ∧ s.ready ∧ s.calm ∧
     (s.withInp { s.inp with housed := s.inp.housed.set 0 false }).inp.housed.get 0 = false) ∧
    (let s := inStage .opening (some { aPlan with tgt := some 0 }) none idle
     s.ready ∧ (s.csq.stage.running && (s.csq.plan.map fun p => decide (p.old = some 0 ∨ p.tgt = some 0)).getD false) = true) := by
  unfold State.ready State.calm; decide

/-- For ForceTablesAreReplacedAndRead. -/
def rawTable : Vector RawPoint 8 :=
  #v[⟨10, 70⟩, ⟨100, 401⟩, ⟨200, 130⟩, ⟨250, 130⟩, ⟨300, 130⟩, ⟨320, 130⟩, ⟨350, 130⟩, ⟨400, 130⟩]
def aTable : Vector ForcePoint 8 :=
  #v[⟨10, 70⟩, ⟨100, 150⟩, ⟨200, 130⟩, ⟨250, 130⟩, ⟨300, 130⟩, ⟨320, 130⟩, ⟨350, 130⟩, ⟨400, 130⟩]
theorem test_witness_tables :
    speedsAscend rawTable.toList = true ∧ (aTable.toList.Pairwise fun a b => a.speed < b.speed) ∧
    99 < 10 * (aTable.get 0).speed ∧ 10 * (aTable.get 7).speed < 4001 ∧ 10 * (aTable.get 0).speed ≤ 100 ∧
    1000 ≤ 10 * (aTable.get 1).speed ∧ (live.ch 1).state = .up ∧ live.head 1 = .wide ∧ live.ready := by
  unfold State.ready; decide

/-- For StrokesRunTheirPressesAndPauses. -/
def stroking (k : Nat) (press : Bool) : State :=
  calmly (chan 0 { rising with state := .stroking, rise := none, stroke := some { number := k, press := press, left := 0 } } idle)
def touching (n : Fin 4) (s : State) : State := s.withInp { s.inp with contact := s.inp.contact.set n.val true n.isLt }
theorem test_witness_strokes :
    ((stroking 1 true).ch 0).state = .stroking ∧ ((stroking 1 true).ch 0).stroke = some ⟨1, true, 0⟩ ∧ (stroking 1 true).work = [] ∧
    ((stroking 2 false).ch 0).stroke = some ⟨2, false, 0⟩ ∧ 2 < (stroking 2 false).par 23 ∧ (stroking 3 false).par 23 ≤ 3 ∧
    (stroking 3 false).calm ∧ (stroking 3 false).inp.contact.get 0 = false ∧
    (touching 0 (stroking 3 false)).inp.contact.get 0 = true ∧ (touching 0 (stroking 3 false)).calm ∧
    (idle.ch 0).state ≠ .stroking := by
  unfold State.calm; decide

/-- For ProtectiveCausesDropTheChannel, ContactIsSupervised and FallsEndDownOrStuck. -/
def losing : State := mending (fun c => { c with contact := some { m := 3, limit := 2000, run := 8 } }) 1 (calmly live)
def falling : State :=
  calmly (chan 0 { stowed with state := .falling, fallCause := some .command, fall := some 0 } idle)
theorem test_witness_channels :
    (let s := calmly (chan 0 rising idle); s.calm ∧ (s.ch 0).state = .rising ∧ (s.ch 0).rise.isSome = true) ∧
    losing.calm ∧ (losing.ch 1).state = .up ∧ (losing.ch 1).contact = some ⟨3, 2000, 8⟩ ∧
    (calmly live).work = [] ∧ ((calmly live).ch 1).state = .up ∧ ((calmly live).ch 1).contact = none ∧ (idle.ch 0).state = .down ∧
    falling.calm ∧ (falling.ch 0).state = .falling ∧ (falling.ch 0).fall.isSome = true ∧
    ((mending (fun c => { c with state := .stuck, fall := none }) 0 falling).ch 0).state = .stuck := by
  unfold State.calm; decide
theorem test_witness_earth_and_breaker :
    live.work = [] ∧ (live.act .es).confirmed = .opened ∧ (live.act .es).motion = .none ∧ (live.act .es).fault = false ∧
    live.fb .es = .opened ∧ (live.ch 1).state.raised = true ∧ (live.ch 0).state.raised = false ∧
    (calmly waiting).calm ∧ ((calmly waiting).act .mb).commanded = .opened ∧ ((calmly waiting).act .mb).motion = .none ∧
    ((calmly waiting).act .mb).fault = false ∧ (calmly waiting).fb .mb = .opened ∧ ((calmly waiting).ch 1).state.raised = true ∧
    ((calmly waiting).ch 1).role = .collector := by
  unfold State.calm; decide

/-- For InputsTakeTheirLevels. -/
theorem test_witness_inputs : idle.inp.airok = true ∧ idle.inp.gtIn = false ∧ idle.inp.rqIn = false ∧ idle.inp.cplIn = false := by decide

/-- For MotionsConfirmOrFault, PositionFeedbackIsFollowed and TravelAndGuardTimersAreFollowed. -/
def moving (a : Actuator) (m : Motion) (k : Nat) (s : State) : State :=
  act a { openRec with commanded := .closed, confirmed := .unsure, motion := m, settle := k } (calmly s)
def seen (a : Actuator) (s : State) : State := s.withInp { s.inp with feedback := s.inp.feedback.set (actNo a).val .closed (actNo a).isLt }
theorem test_witness_motions :
    (let s := seen .ta (moving .ta .settling 15 idle)
     s.calm ∧ (s.act .ta).motion = .settling ∧ s.fb .ta = (s.act .ta).commanded ∧ (s.act .ta).pending = none) ∧
    (let s := seen .mb (act .mb { openRec with commanded := .closed, confirmed := .unsure, motion := .settling, settle := 15 } (calmly waiting))
     s.calm ∧ s.breakerHeld ∧ s.fb .mb = (s.act .mb).commanded) ∧
    (let s := (moving .ta .settling 15 idle).withInp { idle.inp with travelTa := true }
     s.fb .ta ≠ (s.act .ta).commanded ∧ s.travel .ta = true ∧ (s.act .ta).motion = .settling) ∧
    (let s := moving .ta .settling 15 idle
     s.calm ∧ s.fb .ta ≠ (s.act .ta).commanded ∧ s.travel .ta = false) ∧
    (let s := queued (.odoGlitch 3)
     s.noticesHeld = true ∧ (s.evr.routes.get 13).notify = true ∧
     (s.withEvr { s.evr with queue := s.evr.queue.take 14 }).evr.queue.length + 2 ≤ 16) ∧
    ((moving .ta .travel 15 idle).act .ta).motion = .travel ∧ ((moving .ta .settling 0 idle).act .ta).settle = 0 ∧
    (idle.act .ta).motion = .none := by
  unfold State.calm State.breakerHeld; decide
theorem test_witness_feedback :
    idle.fb .is0 = .opened ∧ ((moving .ta .settling 15 idle).act .ta).motion = .settling ∧
    (let s := moving .ta .settling 0 idle; s.calm ∧ s.fb .ta ≠ .closed ∧ (s.act .ta).commanded = .closed ∧ (s.act .ta).pending = none) ∧
    (calmly idle).calm ∧ (idle.act .ta).motion = .none ∧ (idle.act .ta).fault = false ∧ (idle.act .mb).commanded = .opened ∧
    idle.fb .mb ≠ .closed ∧ (seen .mb live).fb .mb ≠ .opened ∧ (seen .mb live).breakerHeld ∧
    ((seen .mb live).act .mb).motion = .none ∧ ((act .ka faultyRec idle).act .ka).fault = true ∧
    (seen .ka idle).fb .ka = .closed ∧ (seen .kd (seen .ka idle)).fb .kd = .closed := by
  unfold State.calm State.breakerHeld; decide
theorem test_witness_travel :
    idle.withInp { idle.inp with travelTa := true } ≠ idle ∧ (idle.act .ta).motion = .none ∧ (idle.act .ta).fault = false ∧
    (calmly idle).calm ∧ idle.sgd.guardKa.isSome = true ∧ idle.sgd.guardKd.isSome = true ∧
    (idle.withSgd { idle.sgd with guardKa := none, guardKd := none }).sgd.guardKa = none := by
  unfold State.calm; decide

/-- For FclrAndErthActOnTheirActuator. -/
theorem test_witness_fclr :
    (idle.act .ka).fault = false ∧ ((act .ka faultyRec idle).act .ka).fault = true ∧ (act .ka faultyRec idle).ready ∧
    (act .ka faultyRec idle).fb .ka = ((act .ka faultyRec idle).act .ka).commanded ∧ (act .ka faultyRec (calmly idle)).calm ∧
    (seen .ka (act .ka faultyRec idle)).fb .ka ≠ ((act .ka faultyRec idle).act .ka).commanded ∧
    (put idle 11 0).par 11 = 0 ∧ (seen .es (put idle 11 0)).fb .es = .closed ∧ (live.act .mb).confirmed ≠ .opened ∧ ((act .es faultyRec idle).act .es).fault = true ∧
    (idle.act .es).confirmed ≠ confirmedAt .closed ∧ (idle.act .es).confirmed = confirmedAt .opened := by
  unfold State.ready State.calm; decide

/-- For BreakerCommandsActOnTheReasons: reasons left, a faulted MB, one closed, one opening, and one that may close. -/
theorem test_witness_breaker :
    live.ready ∧ live.breakerHeld ∧ waiting.breakerHeld ∧ (calmly waiting).calm ∧ (calmly waiting).breakerHeld ∧
    Reasons.empty { idle.sgd.reasons with hold := false, selftrip := false } = false ∧
    Reasons.empty { waiting.sgd.reasons with hold := false, selftrip := false } = true ∧ waiting.sgd.reasons.hold = false ∧
    (waiting.act .mb).commanded = .opened ∧ (waiting.act .mb).motion = .none ∧ (waiting.act .mb).confirmed = .opened ∧
    (waiting.act .mb).pending = none ∧ (put live 9 0).par 9 = 0 ∧ (put live 9 0).fb .mb = .opened ∧
    (live.act .mb).commanded = .closed := by
  unfold State.ready State.breakerHeld State.calm; decide
theorem test_witness_breaker_moves :
    (fed faultyRec).breakerHeld ∧ ((fed faultyRec).act .mb).fault = true ∧
    (let s := calmly (fed { openRec with confirmed := .unsure, motion := .settling, settle := 15 })
     s.calm ∧ s.breakerHeld ∧ (s.act .mb).motion ≠ .none ∧ (s.act .mb).commanded = .opened) := by
  unfold State.breakerHeld State.calm; decide

/-- For SelsRunsThePathChange. -/
theorem test_witness_sels :
    live.mode = .run ∧ idle.mode = .standby ∧ idle.pos.speed = 0 ∧ idle.sgd.proc = none ∧ (idle.act .mb).confirmed = .opened ∧
    (idle.act .td).confirmed ≠ .closed ∧ (([.td, .kd] : List Actuator).find? fun a => (idle.act a).fault) = none ∧
    idle.selectedNow ≠ some .dc15 ∧
    (([.kd, .td, .kd] : List Actuator).find? fun a => ((act .kd faultyRec idle).act a).fault) = some .kd ∧
    idle.selectedNow = none ∧ (calmly idle).calm ∧ idle.par 10 ≠ 0 ∧ idle.par 11 ≠ 0 ∧
    ((calmly idle).act .mb).motion = .none := by
  unfold State.calm; decide
theorem test_witness_sels_faults : (calmly idle).faultsHeld ∧ (calmly idle).motionsHeld := sound_held (by decide)
theorem test_witness_sels_opens :
    let s := calmly (act .ka closedRec idle)
    s.ready ∧ s.calm ∧ sound s = true ∧ s.selectedNow = some .ac25 ∧ (s.act .mb).confirmed = .opened ∧
    (([.ka, .kd] : List Actuator).filter fun k =>
      if k = .kd then false else decide ((s.act k).confirmed ≠ .opened) || decide ((s.act k).commanded = .closed)) = [.ka] := by
  unfold State.ready State.calm; decide

/-- For PathChangeRunsItsSteps: each clause on a procedure toward AC15 or AC25, whose own contactor is KA, with both guards
counting or none. -/
def changing (st : ProcStep) (x : Option System) (l : List Actuator) (guard : Option Nat) (s : State) : State :=
  s.withSgd { s.sgd with proc := some { step := st, target := x, caller := .sels, commanded := l }, guardKa := guard, guardKd := guard }
theorem test_witness_path_opens :
    (let s := changing .openingPath none [.ka] none (arriving .ka .opened idle)
     s.work = [] ∧ s.csq.stage = .idle ∧ sound s = true ∧ s.par 10 ≠ 0 ∧ s.par 11 ≠ 0 ∧ s.arrives .ka .opened) ∧
    (let s := changing .openingPath (some .ac15) [.kd] none (straying .kd .opened idle)
     sound s = true ∧ s.misses .kd) ∧
    (let s := changing .openingPath (some .ac15) [.ka, .kd] none (arriving .kd .opened idle)
     sound s = true ∧ s.arrives .kd .opened ∧ s.standsOpen .ka) ∧
    (let s := changing .openingPath (some .ac15) [.ka] (some 9) (arriving .ka .opened idle)
     sound s = true ∧ s.arrives .ka .opened ∧ s.standsOpen .kd ∧ s.sgd.guardKd.isSome = true ∧ (s.act .ta).confirmed ≠ .closed) ∧
    (let s := changing .openingPath (some .ac25) [.ka] none (arriving .ka .opened idle)
     sound s = true ∧ s.arrives .ka .opened ∧ s.standsOpen .kd ∧ s.sgd.guardKd = none ∧ (s.act .ta).confirmed = .opened) := by
  unfold State.arrives State.misses State.standsOpen; decide
theorem test_witness_path_closes :
    (let s := changing .guard (some .ac15) [.kd] (some 0) idle
     sound s = true ∧ s.sgd.guardKd.isSome = true ∧ s.standsOpen .kd ∧ s.standsOpen .ka ∧ s.fb .kd = .opened ∧
     (s.act .kd).motion = .none) ∧
    (let s := changing .settingTap (some .ac15) [.ta] none (arriving .ta .closed idle)
     sound s = true ∧ s.arrives .ta .closed ∧ s.standsOpen .kd ∧ s.standsOpen .ka) ∧
    (let s := changing .settingTap (some .ac15) [.ta] none (straying .ta .closed idle)
     sound s = true ∧ s.misses .ta ∧ Actuator.ta ∈ [Actuator.ta]) ∧
    (let s := changing .closingPath (some .ac25) [.ka] none (arriving .ka .closed idle)
     sound s = true ∧ s.arrives .ka .closed ∧ (s.act .kd).confirmed = .opened ∧ (s.act .ta).confirmed = .opened) := by
  unfold State.arrives State.misses State.standsOpen; decide
/-- R102, R126: a path contactor that opens ends the step, although the tap reaches its place by itself before it; a switch
in motion that the procedure has not commanded holds no ACT. -/
theorem test_path_commands_once :
    (let s := arriving .ka .opened (changing .openingPath (some .ac15) [.ka] none (arriving .ta .closed idle))
     let t := after (.positionFeedbackChange .ta .closed) (act .ta openRec s)
     t.sgd.proc.map (·.step) = some .openingPath ∧ (t.act .ka).pending = none) ∧
    (let s := (arriving .ta .closed idle).withSgd
       { idle.sgd with proc := some { step := .guard, target := some .dc3, caller := .sequencer, commanded := [.ka] } }
     let u := (inStage .switching (some aPlan) none s).withCsq
       { idle.csq with stage := .switching, plan := some aPlan, switchWait := .running }
     u.highestHold = some .guard) := by decide

/-- For PlansAreDerivedFromTheirGap: the old channel kept, a trailing and a leading channel found, none found; and a gap
listed ahead in both directions. -/
theorem test_witness_plans :
    (live.allows 1 .dc15 = true ∧ (live.ch 1).role = .collector) ∧
    (idle.allows 2 .dc3 = true ∧ idle.leads 2 = false ∧ (idle.ch 2).state = .down ∧ (idle.ch 2).latch = none) ∧
    (let s := channels.foldl (fun u n => if u.leads n then u else chan n { stowed with latch := some .strip } u) idle
     (channels.any fun n => s.leads n && decide ((s.ch n).latch = none) && s.allows n .dc3) = true ∧
     (channels.all fun n => s.leads n || (s.ch n).latch.isSome) = true) ∧
    (channels.all fun n => (State.reset.ch n).latch.isSome) = true ∧
    (let w : WatchGap := { system := true, gap := { lo := 814900, hi := 815250, supplyLo := .ac25, supplyHi := .dc3, lowerInGap := true } }
     let s := (idle.withRmap { idle.rmap with watch := [w] }).withPos { idle.pos with m := 813000 }
     let d := (idle.withRmap { idle.rmap with watch := [w] }).withPos { idle.pos with m := 817000, dir := .descending }
     s.ready ∧ s.mode = .standby ∧ s.csq.stage = .idle ∧ s.passed w.gap = false ∧ s.csq.declined = none ∧ s.pos.m + s.par 3 < 814900 ∧
     d.ready ∧ d.passed w.gap = false ∧ 815250 + d.par 3 < d.pos.m ∧
     (after .modeRun s).csq.stage = .armed ∧ ((after .modeRun s).csq.plan.map (·.target)) = some .dc3 ∧
     ((after .modeRun d).csq.plan.map (·.target)) = some .ac25) := by
  unfold State.ready; decide

/-- For ChangeoverRunsItsStages, stage by stage. -/
def shared (s : State) : State := (put s 40 1).withInp { s.inp with cplIn := true }
def staged (st : Stage) (p : Plan) (s : State) : State := inStage st (some p) none s
def follows (p : Plan) (s : State) : Bool :=
  decide (s.work = [] ∧ s.csq.plan = some p ∧ s.rll.state ≠ .coupling ∧ s.rll.state ≠ .coupled ∧ s.par 10 ≠ 0 ∧ s.par 11 ≠ 0) &&
    sound s && tidy s
theorem follows_held {p : Plan} {s : State} (h : follows p s = true) :
    s.work = [] ∧ s.csq.plan = some p ∧ s.faultsHeld ∧ s.motionsHeld ∧ s.scraperHeld ∧ s.linkFollowed ∧ s.par 10 ≠ 0 ∧ s.par 11 ≠ 0 := by
  simp only [follows, Bool.and_eq_true, decide_eq_true_eq] at h
  obtain ⟨⟨⟨hw, hp, h1, h2, h10, h11⟩, hs⟩, ht⟩ := h
  exact ⟨hw, hp, (sound_held hs).1, (sound_held hs).2, tidy_held ht, fun k => absurd k (by simp [h1, h2]), h10, h11⟩
theorem test_witness_opening :
    (let s := staged .opening aPlan (arriving .mb .opened live)
     follows aPlan s ∧ s.csq.stage = .opening ∧ s.arrives .mb .opened ∧ s.par 40 = 0 ∧ (s.ch 1).state.raised = true ∧
     ∀ k, (s.ch k).state ≠ .stuck) ∧
    (let p := { aPlan with lowerNeeded := false }
     let s := staged .opening p (arriving .mb .opened live)
     follows p s ∧ s.arrives .mb .opened ∧ s.selectedNow ≠ some .dc3 ∧ s.sgd.proc = none) ∧
    (let p := { aPlan with lowerNeeded := false, target := .ac25 }
     let s := staged .opening p (arriving .mb .opened live)
     follows p s ∧ s.arrives .mb .opened ∧ s.selectedNow = some .ac25 ∧ (p.route.map s.beyond) = some false) ∧
    (let s := staged .opening aPlan (shared (arriving .mb .opened live))
     follows aPlan s ∧ s.arrives .mb .opened ∧ s.par 40 = 1 ∧ s.inp.cplIn = true ∧ s.rll.conflict = false) ∧
    (let s := staged .opening aPlan (straying .mb .opened live)
     follows aPlan s ∧ s.misses .mb ∧ (s.act .mb).commanded = .opened) := by
  unfold State.arrives State.misses; decide
theorem test_witness_lowering :
    (let s := staged .lowering aPlan (shared waiting)
     let u := s.withCsq { s.csq with timer := some 4 }
     follows aPlan u ∧ u.csq.timer.isSome = true ∧ u.inp.cplIn = true ∧ (u.act .mb).confirmed = .opened ∧ (u.ch 1).state.raised = true) ∧
    (let s := staged .lowering aPlan (chan 1 { stowed with state := .falling, role := .collector, fall := some 0 } waiting)
     let u := s.withCsq { s.csq with waitFor := [1] }
     follows aPlan u ∧ u.csq.timer = none ∧ u.csq.waitFor = [1] ∧ (u.ch 1).state = .falling ∧ (u.ch 1).fall.isSome = true ∧
     (u.act .mb).confirmed = .opened ∧ u.selectedNow ≠ some .dc3 ∧ u.sgd.proc = none) := by
  decide
def switched (p : Plan) (s : State) : State :=
  let u := changing .closingPath (some .dc3) [.ka, .kd] none s
  let u := u.withSgd { u.sgd with proc := some { step := .closingPath, target := some .dc3, caller := .sequencer, commanded := [.ka, .kd] } }
  u.withCsq { u.csq with stage := .switching, plan := some p, switchWait := .running }
theorem test_witness_switching :
    (let s := switched aPlan (arriving .kd .closed idle)
     follows aPlan s ∧ s.csq.switchWait = .running ∧ s.arrives .kd .closed ∧ (s.act .ka).confirmed = .opened ∧
     (s.act .td).confirmed = .opened ∧ (aPlan.route.map s.beyond) = some false) ∧
    (let p := { aPlan with route := none, old := none }
     let s := switched p (arriving .kd .closed idle)
     follows p s ∧ s.raisable 2 .dc3) ∧
    (let s := switched aPlan (straying .kd .closed idle); follows aPlan s ∧ s.misses .kd) := by
  unfold State.arrives State.misses State.raisable; decide
theorem test_witness_waiting :
    let past (m : Nat) : State := told (staged .waiting aPlan ((act .kd closedRec idle).withPos { idle.pos with m := m, u := 999999 }))
    let t (m : Nat) : State := after (.axleTransition true false) (past m)
    follows aPlan (past 815309) ∧ follows aPlan (past 815310) ∧ (past 815310).raisable 2 .dc3 ∧
    (t 815309).pos.m = 815310 ∧ (t 815309).currentRec = none ∧ ((past 815309).ch 2).state.raised = false ∧ (aPlan.route.map (t 815309).beyond) = some false ∧ (past 815310).selectedNow = some .dc3 ∧
    (t 815310).pos.m = 815311 ∧ (aPlan.route.map (t 815310).beyond) = some true ∧ (t 815310).csq.stage = .raising := by
  unfold State.raisable; decide
theorem test_witness_raising :
    (let s := staged .raising aPlan (arriving .is2 .closed (chan 2 collecting idle))
     follows aPlan s ∧ s.arrives (isoOf 2) .closed ∧ (s.ch 2).state = .up ∧ (s.ch 2).role = .collector ∧ s.lcl.line ≠ .sys .dc3) ∧
    (let s := staged .raising aPlan (straying .is2 .closed (chan 2 collecting idle)); follows aPlan s ∧ s.misses (isoOf 2)) := by
  unfold State.arrives State.misses; decide
/-- Under DC3 with channel 2 collecting, the window that confirms it due, and MB as given. -/
def proved (hold : Bool) (line : LineState) (mb : ActRec) (st : Stage) : State :=
  let s := act .is2 closedRec (act .kd closedRec (chan 2 collecting idle))
  let s := (act .mb mb s).withMode .run
  let s := s.withLcl { s.lcl with endDue := true, s1 := 1440000, s2 := 2160960000, line := line, candidate := some (.sys .dc3), streak := 14 }
  let s := (staged st aPlan s).withCsq { s.csq with stage := st, plan := some aPlan, timer := some 9 }
  told (s.withSgd { s.sgd with reasons := { s.sgd.reasons with hold := hold } })
theorem test_witness_proving :
    (let s := proved false .dead openRec .proving
     follows aPlan s ∧ s.csq.timer.isSome = true ∧ s.lcl.endDue = true ∧ s.rmap.watch = [] ∧ s.breakerHeld ∧
     s.selectedNow = some .dc3 ∧ s.standsOpen .mb ∧ s.par 9 ≠ 0 ∧ (after .windowEnd s).lcl.line = .sys .dc3 ∧
     Reasons.empty { s.sgd.reasons with line := false, seq := false } = true) ∧
    (let s := proved true .dead openRec .proving
     follows aPlan s ∧ s.breakerHeld ∧ (after .windowEnd s).lcl.line = .sys .dc3 ∧
     Reasons.empty { s.sgd.reasons with line := false, seq := false } = false) ∧
    (let s := arriving .mb .closed (proved false (.sys .dc3) openRec .closing)
     follows aPlan s ∧ s.arrives .mb .closed ∧ s.rmap.watch = [] ∧ s.breakerHeld) := by
  unfold State.breakerHeld State.standsOpen State.arrives; decide

/-- For FailuresHoldTheBreaker and ChangeoverCommandsActByTheStage. -/
def timed (st : Stage) : State :=
  let s := inStage st (some aPlan) none live
  s.withCsq { s.csq with timer := some 0 }
theorem test_witness_failures :
    (timed .lowering).csq.stage = .lowering ∧ (timed .lowering).csq.timer.isSome = true ∧ (timed .lowering).work = [] ∧
    (timed .proving).csq.stage = .proving ∧ (timed .proving).csq.timer.isSome = true ∧ (timed .closing).ready ∧
    (timed .closing).csq.stage.running = true ∧ (timed .closing).breakerHeld ∧ idle.csq.stage = .idle := by
  unfold State.ready State.breakerHeld; decide
theorem test_witness_changeover :
    (inStage .armed (some aPlan) none live).csq.plan.bind (·.gap) = some (814900, 815250) ∧
    (inStage .failed (some aPlan) (some .strip) idle).csq.failReason = some .strip ∧ idle.mode = .standby ∧
    (let w : WatchGap :=
       { system := true, gap := { lo := 814900, hi := 815250, supplyLo := .ac25, supplyHi := .dc3, lowerInGap := true } }
     let s := inStage .failed (some aPlan) (some .strip) (live.withRmap { live.rmap with watch := [w] })
     s.ready ∧ s.mode = .run ∧ s.csq.declined ≠ some (814900, 815250) ∧ s.passed w.gap = false ∧
     (after .cack s).csq.plan.bind (·.gap) = some (814900, 815250)) ∧
    at15.ready ∧ at15.csq.stage = .idle ∧ at15.pos.speed ≤ 50 ∧ at15.allows 1 .dc15 = true ∧ at15.inp.emerg = false ∧
    (at15.manualPlan .dc15).tgt.isSome = true ∧ at15.breakerHeld ∧ (at15.act .mb).commanded = .closed ∧ at15.par 9 ≠ 0 ∧
    (let s := at15.withPos { at15.pos with speed := 51 }; s.ready ∧ 50 < s.pos.speed) ∧
    (let s := put (put (put (put at15 42 0x0100) 43 0x0101) 44 0x0102) 45 0x0103
     s.pos.speed ≤ 50 ∧ ∀ n, s.allows n .dc15 = false) ∧
    (let s := mending (fun c => { c with latch := some .strip }) 3 (mending (fun c => { c with latch := some .strip, state := .down }) 1 at15)
     s.ready ∧ s.allows 1 .dc15 = true ∧ (s.manualPlan .dc15).tgt = none ∧ (s.manualPlan .dc15).fed = false) := by
  unfold State.ready State.breakerHeld; decide

/-- R138: MODE STANDBY in CLOSING fails the plan with STANDBY. -/
theorem test_closing_fails_standby :
    let s := inStage .closing (some aPlan) none (fed { openRec with commanded := .closed, confirmed := .unsure, motion := .settling, settle := 15 })
    (after .modeStandby s).csq.stage = .failed ∧ (after .modeStandby s).csq.failReason = some .standby := by decide
/-- R127: a write of P04 ends no WAITING; the next change of M does. -/
theorem test_waiting_waits_for_m :
    let s := (inStage .waiting (some { aPlan with tgt := none }) none live).withPos
      { live.pos with m := 815260, u := 999999 }
    (after (.setp 4 0) s).csq.stage = .waiting ∧ (after (.axleTransition true false) (after (.setp 4 0) s)).csq.stage ≠ .waiting := by
  decide

/-- For HeatListIsKeptAndCountedDown and FrstAndScrpSetTheirModes. -/
def heated : State :=
  live.withIcu { live.icu with frost := true, grant := [4], budget := 24, list := [⟨4, .host, 0, 1⟩, ⟨4, .auto, 2, 1⟩, ⟨5, .auto, 2, 3600⟩] }
theorem test_witness_heat :
    heated.ready ∧ heated.heatListHeld ∧ (4 : Fin 6) ∈ heated.icu.grant ∧ (0 : Fin 6) ∉ heated.icu.grant ∧ heated.icu.frost = true ∧
    live.ready ∧ live.heatListHeld ∧ live.icu.frost = false := by
  unfold State.ready State.heatListHeld; decide

/-- For ScraperIsRaisedAndWithdrawn: a scraper wanted and none up, one wanted no longer, and one that falls. -/
def icy (b : Bool) (s : State) : State :=
  let s := put (s.withPos { s.pos with speed := 1000 }) 39 0
  let s := s.withRmap { s.rmap with
    current := { s.rmap.current with hit := some { record := { openSection with ice := b }, source := .zone 0, boundary := none } } }
  told (s.withIcu { s.icu with scrapeEnable := true })
theorem test_witness_scraper :
    ([icy true live, icy false live, icy true scraping, icy false scraping].all fun s =>
      s.work.isEmpty && !s.vlp.resetPending && tidy s) = true ∧ (icy true live).breakerHeld ∧ (icy true scraping).breakerHeld ∧
    (let s := icy true live
     s.icu.scraper = none ∧ (channels.find? fun n => s.leads n && decide ((s.ch n).state = .down)).isSome = true ∧
     s.par 19 ≤ s.pos.speed ∧ s.pos.speed ≤ s.par 20 ∧ s.mode = .run ∧ s.csq.stage = .idle ∧ s.inp.airok = true ∧ s.inp.emerg = false ∧
     (after .scrpOn s).icu.scraper.isSome = true) ∧
    (icy true scraping).icu.scraper = some 2 ∧ ((icy true scraping).ch 2).state.raised = true ∧
    (let s := chan 2 { stowed with state := .falling, role := .scraper, fall := some 0 } (put scraping 39 0)
     s.icu.scraper = some 2 ∧ s.icu.scrapeEnable = false ∧ tidy s = true ∧ s.ready ∧ s.breakerHeld ∧ (s.ch 2).fall.isSome = true) := by
  unfold State.ready State.breakerHeld; decide
theorem test_witness_scraper_roles : (icy true live).rolesSingle ∧ (icy true scraping).rolesSingle := by
  refine ⟨fun r h => ?_, fun r h => ?_⟩ <;> cases r <;> first | exact absurd rfl h | decide

/-- For HeadDemandsMakeTheirEntries: a channel that comes to UP under an iced record, one that stays in it, one that falls,
and a sweep that finds the record. -/
def frozen (c : Channel) (d : Bool) : State :=
  let s := calmly (chan 0 c (icy true idle))
  let s := s.withIcu { s.icu with scrapeEnable := false, demand := s.icu.demand.set 0 d
                                  list := [⟨0, .host, 1, 5⟩, ⟨4, .auto, 2, 5⟩] }
  s
theorem test_witness_demands :
    (frozen rising false).calm ∧ (frozen rising false).heatListHeld ∧ (frozen collecting true).calm ∧
    (frozen collecting true).icu.demand.get 0 = true ∧ (frozen rising false).icu.demand.get 0 = false ∧
    (after (.contactAssert 0) (frozen rising false)).icu.list =
      [⟨0, .host, 1, 5⟩, ⟨0, .auto, 1, (frozen rising false).par 37⟩, ⟨4, .auto, 2, 5⟩] ∧
    (let s := frozen { stowed with state := .falling } false; s.calm ∧ (s.ch 0).state = .falling) ∧
    (let s := calmly (chan 0 collecting idle); s.calm ∧ s.heatListHeld ∧ ∀ k, s.icu.demand.get k = false) := by
  unfold State.calm State.heatListHeld; decide
/-- A re-probe and an axle edge that bring an iced zone over a channel in UP, in STANDBY and, with no system gap, in RUN. -/
def nearIce : State :=
  let s := calmly (chan 0 collecting idle)
  (withZone 2 { route := 214, base := 1, sizeCode := 0, record := { openSection with ice := true } } s).withPos
    { s.pos with route := 214, m := 255, u := 999999 }
def inIce : State := nearIce.withPos { nearIce.pos with m := 256 }
theorem test_witness_current_demands :
    nearIce.calm ∧ nearIce.heatListHeld ∧ nearIce.mode = .standby ∧ (nearIce.ch 0).arcs = [] ∧ (nearIce.ch 0).suspect = false ∧
    nearIce.currentRec = none ∧ nearIce.icu.demand.get 0 = false ∧
    (after (.axleTransition true false) nearIce).icu.list = [⟨0, .auto, 1, nearIce.par 37⟩] ∧
    (after .mapSweep inIce).icu.list = [⟨0, .auto, 1, inIce.par 37⟩] := by
  unfold State.calm State.heatListHeld; decide
theorem test_witness_gapless :
    (inIce.withMode .run).calm ∧ (∀ w ∈ inIce.rmap.watch, w.system = false) ∧
    (inIce.rmap.zones.toList.all fun z => decide (z.content.record.stretch.kindCode ≠ 2)) = true ∧
    (after .mapSweep (inIce.withMode .run)).icu.demand.get 0 = true := by
  unfold State.calm; decide

/-- For PeerAsksAndLeaves and LinkFollowsItsInputs. -/
def linked (role : Nat) (x : LinkState) (rq gt cpl : Bool) (s : State) : State :=
  (put s 40 role).withRll { state := x, rq := rq, gt := gt, cpl := cpl, conflict := false, detach := false }
theorem test_witness_peer :
    (linked 2 .detached false false false idle).ready ∧ (linked 2 .detached false false false idle).par 40 = 2 ∧
    (∃ n, ((linked 2 .detached false false false live).ch n).role = .collector) ∧
    (¬ ∃ n, ((linked 2 .detached false false false idle).ch n).role = .collector) ∧
    (linked 2 .asking true false false idle).rll.state = .asking ∧ (linked 2 .coupled true false true idle).rll.state = .coupled ∧
    (linked 2 .uncoupling true false true idle).rll.state = .uncoupling ∧ ¬ (idle.par 40 = 2) ∧
    (linked 2 .asking true false false idle).rll.conflict = false := by
  unfold State.ready; decide
theorem test_witness_peer_faults : (linked 2 .detached false false false idle).faultsHeld ∧
    (linked 2 .detached false false false idle).inp.gtIn = false := by
  refine ⟨fun a => ?_, by decide⟩
  cases a <;> decide
theorem test_witness_conflict :
    ([LinkState.coupling, .coupled, .uncoupling].all fun x =>
      decide ((linked 2 x true false true idle).work = []) && decide ((linked 2 x true false true idle).par 40 = 2) &&
      decide ((linked 2 x true false true idle).rll.conflict = false) &&
      !(linked 2 x true false true idle).inp.rqIn) = true := by decide
/-- R165, R166: an RC confirmed CLOSED by itself while its close is refused takes the link to COUPLED. -/
theorem test_coupler_closed_by_itself :
    let s := (linked 2 .coupling true false false live).withInp { live.inp with gtIn := true }
    (s.act .is1).commanded = .closed ∧ (after (.positionFeedbackChange .rc .closed) s).rll.state = .coupled ∧
    (after (.positionFeedbackChange .rc .closed) s).rll.cpl = true := by decide
theorem test_witness_link :
    idle.par 40 = 0 ∧ idle.work = [] ∧ idle.rll.conflict = false ∧
    (let s := linked 1 .holding false false false idle
     s.par 40 = 1 ∧ s.inp.gtIn = false ∧ s.inp.rqIn = false ∧ s.csq.stage = .idle ∧ s.rll.state = .holding ∧ s.work = []) ∧
    (let s := linked 2 .asking true false false idle
     s.par 40 = 2 ∧ s.inp.rqIn = false ∧ s.inp.gtIn = false ∧ (s.act .rc).fault = false) ∧
    (let s := (linked 1 .granting false true false live).withInp { live.inp with rqIn := true }
     s.rll.state = .granting ∧ s.inp.gtIn = false ∧ s.inp.rqIn = true) := by decide

/-- A coupled junior fed through the roof line, with its breaker closed. -/
def coupled : State :=
  told ((linked 2 .coupled true false true (act .rc closedRec (act .is1 openRec (chan 1 stowed live)))).withInp
    { live.inp with gtIn := true })
theorem test_witness_grant_falls :
    coupled.linkHeld ∧ coupled.linkFollowed ∧ coupled.work = [] ∧ coupled.inp.gtIn = true ∧ coupled.inp.rqIn = false ∧
    coupled.rll.state = .coupled ∧ (coupled.act .rc).confirmed ≠ .opened ∧ coupled.par 10 ≠ 0 ∧ (coupled.act .mb).commanded = .closed := by
  unfold State.linkHeld State.linkFollowed; decide
theorem test_witness_coupled_breaker : coupled.breakerHeld ∧ coupled.sgd.reasons.empty = true := by
  unfold State.breakerHeld; decide
theorem test_witness_link_ends :
    (let s := (linked 2 .coupling true false false idle).withInp { idle.inp with gtIn := true }
     s.rll.state = .coupling ∧ (s.act .rc).confirmed = .opened) ∧
    (let s := linked 2 .coupling true false false (arriving .rc .closed (idle.withInp { idle.inp with gtIn := true }))
     s.work = [] ∧ s.inp.gtIn = true ∧ s.arrives .rc .closed) ∧
    (let s := linked 2 .uncoupling true false true (arriving .rc .opened idle)
     s.work = [] ∧ s.rll.detach = false ∧ s.inp.gtIn = false ∧ s.arrives .rc .opened) ∧
    (let s := linked 1 .holding false false false (staged .opening aPlan (travelling .mb .opened .closed live))
     s.rll.state = .holding ∧ s.inp.rqIn = false ∧ s.csq.stage = .opening ∧ (s.act .mb).motion = .settling) ∧
    (let s := linked 1 .holding false false false (inStage .failed (some aPlan) (some .strip) idle)
     s.inp.gtIn = false ∧ s.csq.stage = .failed) := by
  unfold State.arrives; decide

/-- For RouterCommandsWriteTheirTables and EventsAreQueuedAndShown: a queue with place, one full with the number and one
full without it. -/
theorem test_witness_router :
    (7 : Byte).toNat < 8 ∧ (State.reset.evr.lines.get 0).latch = false ∧
    (let s := State.reset.withEvr { State.reset.evr with lines := State.reset.evr.lines.set 0 { latch := false, length := 500, active := true, timer := some 0, first := none } }
     (s.evr.lines.get 0).timer.isSome = true ∧ s.ready) ∧
    (after (.evrtWriteLine 0 1 500) State.reset).evr.lines.get 0 ≠ State.reset.evr.lines.get 0 ∧
    (queued (.odoGlitch 3)).noticesHeld = true ∧ ((queued (.odoGlitch 3)).evr.routes.get 3).notify = true ∧
    16 ≤ (queued (.odoGlitch 3)).evr.queue.length ∧
    (queued (.odoGlitch 3)).evr.queue =
      List.replicate 15 { event := .odoGlitch 3, coalesced := false } ++ { event := .odoGlitch 3, coalesced := false } :: [] ∧
    (∀ y ∈ (queued (.missHere 3)).evr.queue, y.event.num ≠ (Event.odoGlitch 3).num) ∧
    ((after (.evrtWriteEvent 3 0 0) State.reset).evr.routes.get 3).notify = false := by
  unfold State.ready; decide

/-- For FramesAreReceivedOrDiscarded. -/
theorem test_witness_frames :
    State.reset.vlp.rx = .hunt ∧ State.reset.vlp.rxBuf = [] ∧ (List.replicate 48 (0 : Byte)).length ≤ 48 ∧
    crc [0x28, 0, 0] ≠ 0 ∧ State.reset.vlp.inHand = [] ∧ State.reset.vlp.carrying = false ∧ State.reset.ready ∧
    (Instr.unknownCommand 0x3F 9).wellFormed = true ∧ commandKinds.contains 0x3F = false ∧ 0x40 ≤ (0x40 : Byte).toNat := by
  unfold State.ready; decide
theorem test_witness_frame_lengths :
    wrongLength 0x28 [0] = true ∧ wrongLength 0x13 [0, 0] = true ∧ wrongLength 0x13 (0 :: 1 :: List.replicate 20 0) = true ∧
    wrongLength 0x11 (List.replicate 36 0) = false ∧ wrongLength 0x2A [2] = false ∧ badVariant 0x2A [2] = some 0 ∧
    wrongLength 0x23 [3, 2] = false ∧ badVariant 0x23 [3, 2] = some 1 ∧ badVariant 0x13 [5, 2] = some 1 ∧
    badVariant 0x06 [1, 2, 0, 0, 0, 0, 0] = some 1 ∧ State.reset.work = [] := by decide
/-- R187: a character more than 5 ms after the last is examined in HUNT. -/
theorem test_pause_ends_the_frame :
    let s := State.reset.withVlp { State.reset.vlp with rx := .payload, rxBuf := [0x28, 0, 9], rxSince := 21 }
    (after (.frameReceived [0xC3]) s).vlp.rx = .header ∧ (after (.frameReceived [0xC3]) s).vlp.rxBuf = [] ∧
    (after (.frameReceived [0xC3]) s).vlp.linkError = false := by decide
theorem test_witness_frame_check : ∃ hi lo : Byte, hi ++ lo = crc [0x28, 0, 0] :=
  ⟨(crc [0x28, 0, 0]).extractLsb' 8 8, (crc [0x28, 0, 0]).setWidth 8, by decide⟩

/-- For TransmitterChoosesAnswersFirst and WarmResetGivesTheWarmValues. -/
def sending (l : List TxFrame) : State := State.reset.withVlp { State.reset.vlp with tx := some someFrame, inHand := l }
theorem test_witness_transmitter :
    (sending [someFrame, someFrame]).vlp.tx = some someFrame ∧ (sending [someFrame, someFrame]).vlp.resetPending = false ∧
    (sending [someFrame, someFrame]).vlp.inHand = someFrame :: someFrame :: [] ∧ (sending [someFrame]).vlp.inHand = [someFrame] ∧
    (sending []).vlp.inHand = [] ∧ (sending []).evr.queue = [] ∧ (queued (.odoGlitch 3)).vlp.inHand = [] ∧
    (queued (.odoGlitch 3)).evr.queue ≠ [] ∧ someFrame.kind = 0x43 ∧
    ((sending []).withVlp { (sending []).vlp with resetPending := true }).vlp.resetPending = true ∧ someFrame.payload = [0] := by
  decide
/-- R195: the answer of a refused RSTW is not followed by the warm reset; RSTW's own is. -/
theorem test_refused_rstw :
    let s := (sending [someFrame]).withVlp
      { (sending [someFrame]).vlp with tx := some { someFrame with payload := [0x11, 0, 0] }, resetPending := true }
    (after .transmitFrameEnd s).vlp.tx = some someFrame ∧ (after .transmitFrameEnd s).vlp.resetPending = true ∧
    (after .transmitFrameEnd (after .transmitFrameEnd s)).vlp.resetPending = false := by decide

/-- R175: after a warm reset a SENIOR with RQ_in is WITHHELD, a JUNIOR with RQ_in is in conflict, and a channel not housed falls. -/
def resetting (role : Nat) : State :=
  let s := put (sending []) 40 role
  (s.withVlp { s.vlp with resetPending := true }).withInp { s.inp with rqIn := true, housed := s.inp.housed.set 0 false }
theorem test_warm_reset_values :
    (after .transmitFrameEnd (resetting 1)).rll = { Rll.powerOn with state := .withheld } ∧
    (after .transmitFrameEnd (resetting 2)).rll = { Rll.powerOn with conflict := true } ∧
    ((after .transmitFrameEnd (resetting 0)).ch 0).fall = some 40000 ∧
    ((after .transmitFrameEnd (resetting 0)).ch 0).fallCause = some .reset := by decide

/-- For ModeResetAndParametersAreSet: a parameter of STANDBY in RUN, a code with no meaning, the two owners, forces that
would meet, and a value stored. -/
theorem test_witness_setp :
    live.mode = .run ∧ idle.mode = .standby ∧ (2 : Half).toNat > 1 ∧ (linked 2 .coupled true false true idle).rll.state = .coupled ∧
    (live.ch 1).state ≠ .down ∧ (300 : Half).toNat ≤ 300 ∧ idle.par 16 < idle.par 17 ∧ idle.ready := by
  unfold State.ready; decide

/-- For PowerOnGivesThePowerOnValues: a travel feedback asserted, and the inputs of State.reset. -/
theorem test_witness_power_on : State.reset.inp = Inputs.rest ∧ (stalling.travel .td = true) ∧ (idle.travel .ta = false) := by decide

end Sys2Proof.Tests
end

namespace Sys2Proof.Machine

/-! ## Axle transitions: the decoder and the pairs that are not counted (1.2, R1, R2) -/

section Decoder
variable (a b : Bool)

theorem quadPlace_lt_four : quadPlace a b < 4 := by
  cases a <;> cases b <;> decide

/-- The forward order is a cycle of four, in which the pair with both phases changed lies two places on. -/
theorem quadPlace_not_not : quadPlace (!a) (!b) = (quadPlace a b + 2) % 4 := by
  cases a <;> cases b <;> rfl

theorem decodePair_self : decodePair a b a b = .same := by
  have distance : (quadPlace a b + 4 - quadPlace a b) % 4 = 0 := by omega
  simp only [decodePair, distance]

/-- Two places are as far forward as in reverse, so no direction can be read from them. -/
theorem decodePair_not_not : decodePair a b (!a) (!b) = .invalid := by
  have distance : ((quadPlace a b + 2) % 4 + 4 - quadPlace a b) % 4 = 2 := by
    have bound := quadPlace_lt_four a b
    omega
  simp only [decodePair, quadPlace_not_not, distance]

end Decoder

section Axle
variable {s : State} {a b : Bool}

theorem exec_axleTransition : exec (.axleTransition a b) s = execAxleTransition a b s := rfl

theorem exec_axleTransition_of_same (h : decodePair s.pos.phaseA s.pos.phaseB a b = .same) :
    exec (.axleTransition a b) s = .next s := by
  simp only [exec_axleTransition, execAxleTransition, h]

theorem exec_axleTransition_of_invalid (h : decodePair s.pos.phaseA s.pos.phaseB a b = .invalid) :
    exec (.axleTransition a b) s =
      .next (raise (.odoGlitch s.pos.m) (s.withPos { s.pos with phaseA := a, phaseB := b })) := by
  simp only [exec_axleTransition, execAxleTransition, h]

end Axle

/-- Settles O20: a pair with both phases changed decodes as invalid, and the pair already held as no change. -/
theorem invalidTransitionIsNotCounted : Obligations.InvalidTransitionIsNotCounted := fun s =>
  ⟨exec_axleTransition_of_invalid (decodePair_not_not s.pos.phaseA s.pos.phaseB),
   exec_axleTransition_of_same (decodePair_self s.pos.phaseA s.pos.phaseB)⟩

end Sys2Proof.Machine

namespace Sys2Proof.Machine

/-! ## The end of a window: its figures, its bands and its record (3.5, 3.6, R48 to R51) -/

section Roots
variable {n : Nat}

/-- The search keeps the root between `r` and `r + 2 ^ k`; each bit halves that interval. -/
theorem isqrtFrom_eq_sqrt : ∀ (k r : Nat), r * r ≤ n → n < (r + 2 ^ k) * (r + 2 ^ k) → isqrtFrom n k r = Nat.sqrt n
  | 0, _, lower, upper => Nat.eq_sqrt.2 ⟨lower, upper⟩
  | k + 1, r, lower, upper => by
    unfold isqrtFrom
    split
    next fits =>
      have upper_half : n < (r + 2 ^ k + 2 ^ k) * (r + 2 ^ k + 2 ^ k) := by
        rwa [Nat.add_assoc r, ← Nat.two_mul, ← Nat.pow_succ']
      exact isqrtFrom_eq_sqrt k (r + 2 ^ k) fits upper_half
    next above => exact isqrtFrom_eq_sqrt k r lower (Nat.lt_of_not_le above)

/-- The first bit tried lies above the root, so the search of `isqrt` starts from an interval that holds it. -/
theorem isqrt_eq_sqrt (n : Nat) : isqrt n = Nat.sqrt n := by
  refine isqrtFrom_eq_sqrt _ 0 (Nat.zero_le n) ?_
  calc n < 2 ^ (n.log2 + 1) := Nat.lt_log2_self
    _ ≤ 2 ^ ((n.log2 / 2 + 1) + (n.log2 / 2 + 1)) := Nat.pow_le_pow_right (by decide) (by omega)
    _ = (0 + 2 ^ (n.log2 / 2 + 1)) * (0 + 2 ^ (n.log2 / 2 + 1)) := by rw [Nat.zero_add, Nat.pow_add]

theorem isqrt_mul_self_le (n : Nat) : isqrt n * isqrt n ≤ n := by
  simpa only [isqrt_eq_sqrt] using Nat.sqrt_le n

theorem lt_isqrt_succ_mul_self (n : Nat) : n < (isqrt n + 1) * (isqrt n + 1) := by
  simpa only [isqrt_eq_sqrt] using Nat.lt_succ_sqrt n

/-- R48: the root of a mean square that may be negative is that of the mean square cut off at 0. -/
theorem isqrt_toNat_mul_self_le (x : Int) : ((isqrt x.toNat * isqrt x.toNat : Nat) : Int) ≤ max 0 x := by
  have lower := isqrt_mul_self_le x.toNat
  omega

theorem lt_isqrt_toNat_succ_mul_self (x : Int) :
    max 0 x < (((isqrt x.toNat + 1) * (isqrt x.toNat + 1) : Nat) : Int) := by
  have upper := lt_isqrt_succ_mul_self x.toNat
  omega

end Roots

section Bands

/-- R50: the DC bands are those of the mean as a signed figure; the model reads them from its magnitude. -/
theorem dcBand_toNat {mean : Int} (nonneg : 0 ≤ mean) (rac z : Nat) :
    dcBand mean.toNat rac z =
      if 2250 < mean then .over
      else if z ≤ 2 ∧ (rac : Int) ≤ mean / 8 then
        (if mean ≤ 975 then .sys .dc15
         else if mean ≤ 999 then .uncertain
         else if mean ≤ 1950 then .sys .dc3
         else .uncertain)
      else .uncertain := by
  have tooHigh : 2250 < mean.toNat ↔ 2250 < mean := by omega
  have smooth : rac ≤ mean.toNat / 8 ↔ (rac : Int) ≤ mean / 8 := by omega
  have dc15 : mean.toNat ≤ 975 ↔ mean ≤ 975 := by omega
  have between : mean.toNat < 1000 ↔ mean ≤ 999 := by omega
  have dc3 : mean.toNat ≤ 1950 ↔ mean ≤ 1950 := by omega
  simp only [dcBand, tooHigh, smooth, dc15, between, dc3]

/-- R49 with the bands of R50 and R51 written out. The lower bound of line 4 makes its mean a magnitude. -/
theorem classify_eq_bands (deadLevel : Nat) (f : Figures) (z c : Nat) :
    classify deadLevel f z c =
      if 4 ≤ c then .over
      else if f.r < deadLevel then .dead
      else if f.mean ≤ -500 then .uncertain
      else if 500 ≤ f.mean then
        (if 2250 < f.mean then .over
         else if z ≤ 2 ∧ (f.rac : Int) ≤ f.mean / 8 then
           (if f.mean ≤ 975 then .sys .dc15
            else if f.mean ≤ 999 then .uncertain
            else if f.mean ≤ 1950 then .sys .dc3
            else .uncertain)
         else .uncertain)
      else
        (if 15500 < f.rac then .over
         else if 22 ≤ z ∧ z ≤ 26 ∧ 8500 ≤ f.rac ∧ f.rac ≤ 14500 then .sys .ac25
         else if 7 ≤ z ∧ z ≤ 9 ∧ 5500 ≤ f.rac ∧ f.rac ≤ 9000 then .sys .ac15
         else .uncertain) := by
  unfold classify
  by_cases dc : 500 ≤ f.mean
  · rw [dcBand_toNat (by omega)]; rfl
  · simp only [if_neg dc, acBand]

end Bands

section WindowEnd
variable {s : State}

theorem exec_windowEnd : exec .windowEnd s = execWindowEnd s := rfl

theorem exec_windowEnd_of_endDue (due : s.lcl.endDue = true) : exec .windowEnd s = .next (settle (endWindow s)) := by
  simp only [exec_windowEnd, execWindowEnd, due, if_true]

/-- R54: the blocks a change of the line state is handed to leave the classifier alone. -/
@[simp] theorem settle_lcl (s : State) : (settle s).lcl = s.lcl := (keeps_settle (Keeps.refl s)).lcl

@[simp] theorem endWindow_lcl (s : State) :
    (endWindow s).lcl = s.lcl.finish (s.par 5) (s.par 6) (s.lcl.windowRec (s.par 7)) := by
  unfold endWindow; dsimp only
  split <;> simp

@[simp] theorem Lcl.finish_last (p05 p06 : Nat) (w : WindowRec) (l : Lcl) : (l.finish p05 p06 w).last = some w := rfl

theorem Lcl.windowRec_of_not_missing (deadLevel : Nat) {l : Lcl} (whole : l.missing = false) :
    l.windowRec deadLevel =
      { result := classify deadLevel (figures l.s1 l.s2) l.z l.c, mean := (figures l.s1 l.s2).mean
        rac := (figures l.s1 l.s2).rac, z := l.z, c := l.c, missing := false } := by
  simp [Lcl.windowRec, whole]

theorem settle_endWindow_last (whole : s.lcl.missing = false) :
    (settle (endWindow s)).lcl.last =
      some { result := classify (s.par 7) (figures s.lcl.s1 s.lcl.s2) s.lcl.z s.lcl.c
             mean := (figures s.lcl.s1 s.lcl.s2).mean, rac := (figures s.lcl.s1 s.lcl.s2).rac
             z := s.lcl.z, c := s.lcl.c, missing := false } := by
  rw [settle_lcl, endWindow_lcl, Lcl.finish_last, Lcl.windowRec_of_not_missing _ whole]

end WindowEnd

/-- Settles O25: the record of a window that ends whole carries the figures of its sums, whose roots are floors, and its
result reads the bands from these figures. -/
theorem windowIsClassifiedByTheBands : Obligations.WindowIsClassifiedByTheBands := by
  intro s due whole q z
  refine ⟨settle (endWindow s), exec_windowEnd_of_endDue due, _, (figures s.lcl.s1 s.lcl.s2).r,
    settle_endWindow_last whole, ?mean, ?rootLower, ?rootUpper, ?acLower, ?acUpper, rfl, rfl, rfl, ?result⟩
  case mean => rfl
  case rootLower => exact isqrt_mul_self_le q
  case rootUpper => exact lt_isqrt_succ_mul_self q
  case acLower => exact isqrt_toNat_mul_self_le _
  case acUpper => exact lt_isqrt_toNat_succ_mul_self _
  case result => exact classify_eq_bands _ _ _ _

end Sys2Proof.Machine
